-- ==== Sys2Proof/Word.lean ====
section
/-! DEFINITION. The word types of the core: every width the spec fixes (00_scope.md R8, R11; 20_memory.md R66). -/

namespace Sys2Proof

/-- One byte of a DCC packet (20_memory.md R64). -/
abbrev Byte := BitVec 8

/-- A RawPacketWord: the 32 bits gathered after the start bit (00_scope.md R14, `FRAME_BITS`). -/
abbrev Word := BitVec 32

/-- The FunctionButtonTable: bit `i` is button Fi (10_state.md R33, `TABLE_BITS`). -/
abbrev Table := BitVec 13

/-- The four payload bits `I[3:0]` of an instruction byte (30_encoding.md R97). -/
abbrev Payload := BitVec 4

/-- The four selector bits `I[7:4]` of an instruction byte (30_encoding.md R97). -/
abbrev Selector := BitVec 4

/-- A decoder address at the width of the port `target_addr` (30_encoding.md R95, R104). -/
abbrev Address := BitVec 14

/-- The index of one of the two handoff cells (`SLOTS` = 2; 10_state.md R27 to R29). -/
abbrev CellIndex := Fin 2

/-- A positive duration, as a positive rational multiple of some unit of time (00_scope.md R8, `T_TICK`; log 13). -/
abbrev Duration := { d : ℚ // 0 < d }

end Sys2Proof
end

