-- ==== Sys2Proof/Config.lean ====
section
/-! DEFINITION. What an instance of the core fixes (00_scope.md R8), the agent steps that may be asked for, and the one
free value of the model: which agent step comes next when the outside world has listed none. -/

namespace Sys2Proof

/-- `PREAMBLE_LEN` (00_scope.md R8). -/
def Config.preambleLen : Nat := 10

/-- `FRAME_BITS` (00_scope.md R8). -/
def Config.frameBits : Nat := 32

/-- `SHORT_CEILING`: a target up to this value is decoded in the short form (00_scope.md R8, 10_state.md R34). -/
def Config.shortCeiling : Nat := 127

/-- The least configurable target address (00_scope.md R8). -/
def Config.minTarget : Nat := 1

/-- The greatest configurable target address (00_scope.md R8). -/
def Config.maxTarget : Nat := 10239

/-- The greatest button index (20_memory.md R61; 44_interface.md R210): `TABLE_BITS` - 1. -/
def Config.maxButton : Nat := 12

/-- The OPEN parameters of an instance (00_scope.md R8): arguments of the step relation, the same throughout a run.
`tTick` is `T_TICK`, any positive duration, in a unit of time of the instance's own choosing (log 13); it is information only, no
rule reads it (70_reset_and_hazards.md R277). -/
structure Params where
  targetAddr : Address        -- TARGET_ADDR, legal 1..10239
  tTick : Duration            -- T_TICK, any positive duration
  tSampleTicks : Nat          -- T_SAMPLE_TICKS, legal >= 1
  tStuckTicks : Nat           -- T_STUCK_TICKS, legal >= T_SAMPLE_TICKS + 2
  checksumGate : Bool         -- CHECKSUM_GATE
deriving DecidableEq, Repr

/-- DESIGN CHOICE (log 1), unsafe: the parameters of the instance that `State.reset` starts. The timing values are the test values
of 30_encoding.md R108 (the tick of 2 in microseconds), the gate is the default of 00_scope.md R8, and the target is the one of
the examples of 43_decoder.md. Every statement of this model is about all parameters, not these. -/
def Config.params : Params :=
  { targetAddr := 3, tTick := ⟨2, by decide⟩, tSampleTicks := 37, tStuckTicks := 100, checksumGate := true }

/-- One step an agent may take, with the levels and operands the ports carry for it (00_scope.md R10; 30_encoding.md R104).
`driveResets` sets the levels of the two reset ports, which is how the host applies RST and RESTART
(70_reset_and_hazards.md R262); `driveTarget` drives the port `target_addr` (R265). -/
inductive AgentStep
  | tick (level : Bool)                     -- producer: one cycle of clk_s with this level of dcc_in
  | decStart                                -- decoder: DEC_START
  | decApply                                -- decoder: DEC_APPLY
  | decEnd                                  -- decoder: DEC_END
  | readButton (index : BitVec 4)           -- host: rd_req with rd_index
  | readStatus                              -- host: a look at the port stuck_fault
  | driveResets (rst smpRestart : Bool)     -- host: the levels of rst and smp_restart from now on
  | driveTarget (addr : Address)            -- host: the value of target_addr from now on
deriving DecidableEq, Repr, Inhabited

/-- FREE VALUE (log 2), safe: which agent step comes next, with its line level and operands, when `State.schedule` lists none.
It is applied to the counter `State.draws`. The spec admits every order of the agents' steps and every line level
(20_memory.md R69; 93_implementation_defined.md I8, I9), so nothing here constrains it. -/
opaque Config.freeStep : Nat → AgentStep

end Sys2Proof
end

