-- ==== Sys2Proof/Machine/State.lean ====
section
/-! DEFINITION. The state of the core as plain data: every element of 10_state.md R20 to R33, the instance's parameters, the
levels of the two reset ports, and three fields of the model's own (`reply`, `schedule`, `draws`). The core has no address
space (20_memory.md R60), so there is no list of memory cells: its memory is `cell0`, `cell1` and `fbt` (R66). -/

namespace Sys2Proof.Machine

/-- `S.smp_state` (10_state.md R20). -/
inductive SmpState
  | waitFall   -- WAIT_FALL
  | waitRise   -- WAIT_RISE
  | timing     -- TIMING
  | halted     -- HALTED
deriving DecidableEq, Repr

/-- `S.sync_state` (10_state.md R24). Legal: `k` in 1..10, `n` in 0..31 (`SyncState.legal` in Safety.lean). -/
inductive SyncState
  | seekPreamble (k : Nat)   -- SeekPreamble(ones_remaining)
  | seekStartBit             -- SeekStartBit
  | gathering (n : Nat)      -- Gathering(bits_remaining)
deriving DecidableEq, Repr

/-- `HandoffState` of one slot (10_state.md R28). -/
inductive Handoff
  | empty       -- EMPTY
  | producing   -- PRODUCING
  | ready       -- READY
deriving DecidableEq, Repr

/-- `S.dec_phase` (10_state.md R30). -/
inductive DecPhase
  | idle     -- IDLE
  | apply    -- APPLY
  | finish   -- END
deriving DecidableEq, Repr

/-- What the last host read gave back: nothing yet, a button read's `Option bool` (44_interface.md R210), or a status bit
(R213). -/
inductive Reply
  | none
  | button (r : Option Bool)
  | status (b : Bool)
deriving DecidableEq, Repr

/-- The whole machine. Each field's comment names its rule of 10_state.md unless it says otherwise. -/
structure State where
  -- the instance (00_scope.md R8)
  params : Params
  -- port levels as last driven by the host (30_encoding.md R104; 70_reset_and_hazards.md R262)
  rstPin : Bool
  restartPin : Bool
  -- producer
  smpState : SmpState         -- S.smp_state, R20
  smpCount : Nat              -- S.smp_count, R21
  highRun : Nat               -- S.high_run, R22
  stuckFault : Bool           -- S.stuck_fault, R23
  syncState : SyncState       -- S.sync_state, R24
  acc : Word                  -- S.acc, R25
  pubPending : Bool           -- S.pub_pending, R26
  pubSlot : CellIndex         -- S.pub_slot, R26
  -- packet buffer
  cell0 : Word                -- S.cell[0], R27
  cell1 : Word                -- S.cell[1], R27
  slot0 : Handoff             -- S.slot[0], R28
  slot1 : Handoff             -- S.slot[1], R28
  latest : CellIndex          -- S.latest, R29
  -- decoder
  decPhase : DecPhase         -- S.dec_phase, R30
  decWord : Word              -- S.dec_word, R31
  busy : Bool                 -- S.busy, R32
  fbt : Table                 -- S.fbt, R33
  -- the model's own: the host's last answer (log 8), the steps still to come (log 2), the free values drawn (log 2)
  reply : Reply
  schedule : List AgentStep
  draws : Nat
deriving DecidableEq, Repr

/-- Reasons the model stops with a fault. The stuck-high fault is NOT one of them: it is a state of the chip
(60_exceptions.md R233). -/
inductive Fault
  /-- A step found this clause (1 to 8) of the invariants of 10_state.md R40 broken. Raised by `takeStep`
  (Machine/Agents.lean) for every step but a full reset, as 60_exceptions.md R233 allows. Safe: no reachable state breaks one. -/
  | invariantBroken (clause : Nat)
deriving DecidableEq, Repr

/-- Reasons the model refuses to step. -/
inductive Refusal
  /-- No meaning yet for this instruction; raised by `exec`. Safe. -/
  | notModelled (mnemonic : String)
  /-- `TARGET_ADDR` outside 1..10239; raised by `step` for such an instance and by `resetInstant` for such a value driven under
  `rst` (00_scope.md R8; 44_interface.md R214). Safe. -/
  | targetAddrOutOfRange
  /-- `T_SAMPLE_TICKS` = 0; raised by `step` (00_scope.md R8). Safe. -/
  | sampleTicksZero
  /-- `T_STUCK_TICKS` < `T_SAMPLE_TICKS` + 2; raised by `step` (00_scope.md R8). Safe. -/
  | stuckTicksTooSmall
  /-- `target_addr` changed while `rst` is not asserted; raised by `runStep` (60_exceptions.md R233;
  70_reset_and_hazards.md R266). Safe. -/
  | targetChangedOutsideReset
deriving DecidableEq, Repr

/-- An instance with these parameters at the end of a full reset: the table of 10_state.md R39, the reset ports released. -/
def State.resetFor (p : Params) : State :=
  { params := p
    rstPin := false
    restartPin := false
    smpState := .waitFall
    smpCount := 0
    highRun := 0
    stuckFault := false
    syncState := .seekPreamble 10
    acc := 0
    pubPending := false
    pubSlot := 0
    cell0 := 0
    cell1 := 0
    slot0 := .empty
    slot1 := .empty
    latest := 0
    decPhase := .idle
    decWord := 0
    busy := false
    fbt := 0
    reply := .none
    schedule := []
    draws := 0 }

/-- The machine right after reset (10_state.md R39; 70_reset_and_hazards.md R264), with the parameters `Config.params`
(DESIGN CHOICE, log 1). -/
def State.reset : State := State.resetFor Config.params

end Sys2Proof.Machine
end

