-- ==== Sys2Proof/Syntax.lean ====
section
/-! DEFINITION. The instruction set: one constructor per row of spec/opcode_table.json, that is, one per value of the
4-bit function-group selector, each with the 4-bit payload of its instruction byte (30_encoding.md R97, R99). -/

namespace Sys2Proof

/-- The sixteen function-group selectors of the DCC instruction byte (43_decoder.md R186 to R201). -/
inductive Instr
  | sel0000 (pay : Payload)   -- SEL_0000, R186: "other"
  | sel0001 (pay : Payload)   -- SEL_0001, R187: "other"
  | sel0010 (pay : Payload)   -- SEL_0010, R188: "other"
  | sel0011 (pay : Payload)   -- SEL_0011, R189: speed-step group
  | sel0100 (pay : Payload)   -- SEL_0100, R190: speed-step group
  | sel0101 (pay : Payload)   -- SEL_0101, R191: speed-step group
  | sel0110 (pay : Payload)   -- SEL_0110, R192: speed-step group
  | sel0111 (pay : Payload)   -- SEL_0111, R193: speed-step group
  | fgF1F4A (pay : Payload)   -- FG_F1F4_A, R194
  | fgF1F4B (pay : Payload)   -- FG_F1F4_B, R195
  | fgF9F12 (pay : Payload)   -- FG_F9F12, R196
  | fgF5F8 (pay : Payload)    -- FG_F5F8, R197
  | sel1100 (pay : Payload)   -- SEL_1100, R198: "other"
  | sel1101 (pay : Payload)   -- SEL_1101, R199: "other"
  | sel1110 (pay : Payload)   -- SEL_1110, R200: "other"
  | sel1111 (pay : Payload)   -- SEL_1111, R201: "other"
deriving DecidableEq, Repr

end Sys2Proof
end

