-- ==== Sys2Proof/WellFormed.lean ====
section
/-! DEFINITION. Which instances of the core are legal (00_scope.md R8). An instruction needs no check of its own: no selector
and no payload value is illegal (30_encoding.md R101), and the types of `Instr` hold exactly the encodable operands. -/

namespace Sys2Proof

/-- `TARGET_ADDR` lies in 1..10239 (00_scope.md R8; 10_state.md R34). -/
def targetLegal (a : Address) : Bool :=
  decide (Config.minTarget ≤ a.toNat) && decide (a.toNat ≤ Config.maxTarget)

/-- `T_SAMPLE_TICKS` is at least 1 (00_scope.md R8). -/
def Params.sampleLegal (p : Params) : Bool :=
  decide (1 ≤ p.tSampleTicks)

/-- `T_STUCK_TICKS` is at least `T_SAMPLE_TICKS` + 2 (00_scope.md R8). -/
def Params.stuckLegal (p : Params) : Bool :=
  decide (p.tSampleTicks + 2 ≤ p.tStuckTicks)

/-- An instance the model takes: all three checks of 00_scope.md R8 hold. -/
def Params.wf (p : Params) : Bool :=
  targetLegal p.targetAddr && p.sampleLegal && p.stuckLegal

/-- `long_mode` is off: the target selects short-address decoding (10_state.md R34). -/
def Params.shortMode (p : Params) : Bool :=
  decide (p.targetAddr.toNat ≤ Config.shortCeiling)

end Sys2Proof
end

