-- ==== Sys2Proof/Machine/Ops.lean ====
section
/-! DEFINITION. The named operations over the state: cells and slots, the next agent step, entry into the stuck-high fault, and
the two resets that leave it (60_exceptions.md R228, R229; 70_reset_and_hazards.md R260, R261). -/

namespace Sys2Proof.Machine

/-- `MemRead(cell, i)`: all 32 bits of `S.cell[i]` (20_memory.md R65). -/
def State.cell (s : State) (i : CellIndex) : Word :=
  if i = 0 then s.cell0 else s.cell1

/-- `MemWrite(cell, i, w)`: all 32 bits of `S.cell[i]` (20_memory.md R65). -/
def State.setCell (s : State) (i : CellIndex) (w : Word) : State :=
  { s with cell0 := if i = 0 then w else s.cell0, cell1 := if i = 0 then s.cell1 else w }

/-- `S.slot[i]` (10_state.md R28). -/
def State.slot (s : State) (i : CellIndex) : Handoff :=
  if i = 0 then s.slot0 else s.slot1

/-- `S.slot[i] <- h`. -/
def State.setSlot (s : State) (i : CellIndex) (h : Handoff) : State :=
  { s with slot0 := if i = 0 then h else s.slot0, slot1 := if i = 0 then s.slot1 else h }

/-- `1 - i`: the other of the two cells. -/
def otherCell (i : CellIndex) : CellIndex := 1 - i

/-- The agent step taken next: the oldest one listed, or the free value where none is listed (20_memory.md R69, log 2). -/
def State.nextStep (s : State) : AgentStep :=
  match s.schedule with
  | [] => Config.freeStep s.draws
  | a :: _ => a

/-- The state once that step has been taken off the schedule, or one free value drawn. -/
def State.consume (s : State) : State :=
  { s with
    schedule := s.schedule.tail
    draws := if s.schedule.isEmpty then s.draws + 1 else s.draws }

/-- `raise StuckHighFault`: the entry of 60_exceptions.md R228. Everything else is kept; control goes nowhere. -/
def raiseStuckHighFault (s : State) : State :=
  { s with stuckFault := true, smpState := .halted }

/-- `RST()`: every element takes its reset value, in one step (70_reset_and_hazards.md R260). The parameters, the port levels
and what is still scheduled are no elements of the core and stay. -/
def fullReset (s : State) : State :=
  { State.resetFor s.params with
    rstPin := s.rstPin
    restartPin := s.restartPin
    schedule := s.schedule
    draws := s.draws }

/-- A publication begun but not committed is abandoned: its slot becomes `EMPTY` (70_reset_and_hazards.md R261). -/
def abandonPublish (s : State) : State :=
  if s.pubPending then { s.setSlot s.pubSlot .empty with pubPending := false } else s

/-- `RESTART()`: the producer domain alone is reset, a begun publication is abandoned (70_reset_and_hazards.md R261). With
`fullReset` it is the only way out of the stuck-high fault (60_exceptions.md R229). -/
def restartSampler (s : State) : State :=
  abandonPublish
    { s with
      smpState := .waitFall
      smpCount := 0
      highRun := 0
      stuckFault := false
      syncState := .seekPreamble Config.preambleLen
      acc := 0 }

end Sys2Proof.Machine
end

