-- ==== Sys2Proof/Machine/Checks.lean ====
section
/-! DEFINITION. The invariants of 10_state.md R40, clause by clause, and the tests a step makes before it runs: the instance is
legal (00_scope.md R8), no clause is broken (60_exceptions.md R233). -/

namespace Sys2Proof.Machine

/-- R40 (1): the latest slot is `EMPTY` or `READY`. -/
abbrev State.latestNotProducing (s : State) : Prop := s.slot s.latest ≠ .producing

/-- R40 (2): the other slot is `EMPTY` or `PRODUCING`. -/
abbrev State.otherNotReady (s : State) : Prop := s.slot (otherCell s.latest) ≠ .ready

/-- R40 (3): a publication is pending exactly when the other slot is `PRODUCING`, and it is then that slot's. -/
abbrev State.pendingIsProducing (s : State) : Prop :=
  (s.pubPending = true ↔ s.slot (otherCell s.latest) = .producing) ∧
    (s.pubPending = true → s.pubSlot = otherCell s.latest)

/-- R40 (4): at most one slot is `READY`. -/
abbrev State.atMostOneReady (s : State) : Prop := ¬ (s.slot 0 = .ready ∧ s.slot 1 = .ready)

/-- R40 (5): the guard is set exactly from `DEC_START` to `DEC_END`. -/
abbrev State.busyWhileDecoding (s : State) : Prop :=
  s.busy = true ↔ (s.decPhase = .apply ∨ s.decPhase = .finish)

/-- R40 (6): F0 is false. -/
abbrev State.f0False (s : State) : Prop := s.fbt.getLsbD 0 = false

/-- R40 (7): in `TIMING` the countdown lies in 1..`T_SAMPLE_TICKS`. -/
abbrev State.countInWindow (s : State) : Prop :=
  s.smpState = .timing → 1 ≤ s.smpCount ∧ s.smpCount ≤ s.params.tSampleTicks

/-- R40 (8): the fault flag is set exactly in `HALTED`. -/
abbrev State.faultWhileHalted (s : State) : Prop := s.stuckFault = true ↔ s.smpState = .halted

/-- The eight clauses of 10_state.md R40 together. -/
abbrev State.Inv (s : State) : Prop :=
  s.latestNotProducing ∧ s.otherNotReady ∧ s.pendingIsProducing ∧ s.atMostOneReady ∧
    s.busyWhileDecoding ∧ s.f0False ∧ s.countInWindow ∧ s.faultWhileHalted

/-- The number of the first clause of 10_state.md R40 that this state breaks. -/
def State.brokenClause (s : State) : Option Nat :=
  if ¬ s.latestNotProducing then some 1
  else if ¬ s.otherNotReady then some 2
  else if ¬ s.pendingIsProducing then some 3
  else if ¬ s.atMostOneReady then some 4
  else if ¬ s.busyWhileDecoding then some 5
  else if ¬ s.f0False then some 6
  else if ¬ s.countInWindow then some 7
  else if ¬ s.faultWhileHalted then some 8
  else none

/-- Why the model refuses an instance with these parameters, if it does (00_scope.md R8; 60_exceptions.md R233). -/
def paramProblem (p : Params) : Option Refusal :=
  if targetLegal p.targetAddr = false then some .targetAddrOutOfRange
  else if p.sampleLegal = false then some .sampleTicksZero
  else if p.stuckLegal = false then some .stuckTicksTooSmall
  else none

end Sys2Proof.Machine
end

