-- ==== Sys2Proof/Machine/HostPort.lean ====
section
/-! DEFINITION. The host's reads (44_interface.md R210 to R213). A read writes no state of the core; its answer goes into the
model's own field `reply` (log 8). -/

namespace Sys2Proof.Machine

/-- `READ_BUTTON(i)`: `None` while busy, `None` above index 12, else the table's bit (44_interface.md R210). -/
def readButton (i : BitVec 4) (s : State) : Option Bool :=
  if s.busy then none
  else if Config.maxButton < i.toNat then none
  else some (s.fbt.getLsbD i.toNat)

/-- `READ_STATUS()`: `S.stuck_fault` (44_interface.md R213). -/
def readStatus (s : State) : Bool := s.stuckFault

/-- The host step of a button read. -/
def readButtonStep (i : BitVec 4) (s : State) : State :=
  { s with reply := .button (readButton i s) }

/-- The host step of a status read. -/
def readStatusStep (s : State) : State :=
  { s with reply := .status (readStatus s) }

/-- The two reset ports take these levels (30_encoding.md R104). -/
def setPins (rst smpRestart : Bool) (s : State) : State :=
  { s with rstPin := rst, restartPin := smpRestart }

/-- The port `target_addr` takes this value (44_interface.md R214). -/
def setTarget (a : Address) (s : State) : State :=
  { s with params := { s.params with targetAddr := a } }

end Sys2Proof.Machine
end

