-- ==== Sys2Proof/Decode.lean ====
section
/-! DEFINITION. The decoder from an instruction byte to `Instr`, the encoder back, and the layout of the RawPacketWord that
carries an instruction byte (30_encoding.md R93, R94, R97, R99). Every byte decodes: none is illegal (R101). -/

namespace Sys2Proof

/-- `sel = I[7:4]` (30_encoding.md R97). -/
def selectorOf (b : Byte) : Selector := b.extractLsb' 4 4

/-- `pay = I[3:0]` (30_encoding.md R97). -/
def payloadOf (b : Byte) : Payload := b.extractLsb' 0 4

/-- The instruction with this selector and payload: the selector map of 30_encoding.md R99, row by row. -/
def instrOf (sel : Selector) (pay : Payload) : Instr :=
  match sel.getLsbD 3, sel.getLsbD 2, sel.getLsbD 1, sel.getLsbD 0 with
  | false, false, false, false => .sel0000 pay
  | false, false, false, true => .sel0001 pay
  | false, false, true, false => .sel0010 pay
  | false, false, true, true => .sel0011 pay
  | false, true, false, false => .sel0100 pay
  | false, true, false, true => .sel0101 pay
  | false, true, true, false => .sel0110 pay
  | false, true, true, true => .sel0111 pay
  | true, false, false, false => .fgF1F4A pay
  | true, false, false, true => .fgF1F4B pay
  | true, false, true, false => .fgF9F12 pay
  | true, false, true, true => .fgF5F8 pay
  | true, true, false, false => .sel1100 pay
  | true, true, false, true => .sel1101 pay
  | true, true, true, false => .sel1110 pay
  | true, true, true, true => .sel1111 pay

/-- The instruction an instruction byte stands for (30_encoding.md R97, R99). -/
def decode (b : Byte) : Instr := instrOf (selectorOf b) (payloadOf b)

/-- The selector of an instruction, as opcode_table.json gives it in bits 7..4 (30_encoding.md R99). -/
def selectorBits (i : Instr) : Selector :=
  match i with
  | .sel0000 _ => 0b0000
  | .sel0001 _ => 0b0001
  | .sel0010 _ => 0b0010
  | .sel0011 _ => 0b0011
  | .sel0100 _ => 0b0100
  | .sel0101 _ => 0b0101
  | .sel0110 _ => 0b0110
  | .sel0111 _ => 0b0111
  | .fgF1F4A _ => 0b1000
  | .fgF1F4B _ => 0b1001
  | .fgF9F12 _ => 0b1010
  | .fgF5F8 _ => 0b1011
  | .sel1100 _ => 0b1100
  | .sel1101 _ => 0b1101
  | .sel1110 _ => 0b1110
  | .sel1111 _ => 0b1111

/-- The payload of an instruction (30_encoding.md R97). -/
def payloadBits (i : Instr) : Payload :=
  match i with
  | .sel0000 pay => pay
  | .sel0001 pay => pay
  | .sel0010 pay => pay
  | .sel0011 pay => pay
  | .sel0100 pay => pay
  | .sel0101 pay => pay
  | .sel0110 pay => pay
  | .sel0111 pay => pay
  | .fgF1F4A pay => pay
  | .fgF1F4B pay => pay
  | .fgF9F12 pay => pay
  | .fgF5F8 pay => pay
  | .sel1100 pay => pay
  | .sel1101 pay => pay
  | .sel1110 pay => pay
  | .sel1111 pay => pay

/-- The instruction byte of an instruction: `i = (sel << 4) | pay` (30_encoding.md R107). -/
def encode (i : Instr) : Byte := selectorBits i ++ payloadBits i

/-- The short-form word: address byte, 0, instruction byte, 0, checksum byte, and the next six line bits (30_encoding.md R93). -/
def packShort (addr instr chk : Byte) (tail : BitVec 6) : Word :=
  addr ++ 0#1 ++ instr ++ 0#1 ++ chk ++ tail

/-- The long-form word: first address byte, 0, second address byte, 0, instruction byte, 0, and checksum bits `C[7:3]`
(30_encoding.md R94). -/
def packLong (addr1 addr2 instr : Byte) (chkHigh : BitVec 5) : Word :=
  addr1 ++ 0#1 ++ addr2 ++ 0#1 ++ instr ++ 0#1 ++ chkHigh

/-- The first byte of a long-address packet: the marker `0b11` and address bits 13..8 (30_encoding.md R92, R106). -/
def longByte1 (a : Address) : Byte := 0b11#2 ++ a.extractLsb' 8 6

/-- The second byte of a long-address packet: address bits 7..0 (30_encoding.md R92, R106). -/
def longByte2 (a : Address) : Byte := a.extractLsb' 0 8

/-- A well-formed RawPacketWord that carries this instruction byte to this instance's target, in the form the target selects,
with its right checksum. DESIGN CHOICE (log 9), safe: the short form's six bits after the checksum, which no rule reads
(30_encoding.md R93), are ones. -/
def Params.wordFor (p : Params) (instr : Byte) : Word :=
  if p.shortMode then
    let a : Byte := p.targetAddr.setWidth 8
    packShort a instr (a ^^^ instr) 0b111111
  else
    let b1 := longByte1 p.targetAddr
    let b2 := longByte2 p.targetAddr
    packLong b1 b2 instr ((b1 ^^^ b2 ^^^ instr).extractLsb' 3 5)

/-- The instruction in `nbits` bits of value `w`. The table gives every row the eight bits of one instruction byte
(opcode_table.json); anything else is no instruction byte and is refused. -/
def decodeTableWord (nbits w : Nat) : Option Instr :=
  if nbits = 8 ∧ w < 256 then some (decode (BitVec.ofNat 8 w)) else none

end Sys2Proof
end

