-- ==== Sys2Proof/Machine/Operands.lean ====
section
/-! DEFINITION. The operand forms: which bits of a RawPacketWord are its address and its instruction byte, in the short and in
the long form (30_encoding.md R93 to R96; 43_decoder.md R179, R180). -/

namespace Sys2Proof.Machine

/-- Short form: `addr = zext_14(w[30:24])`; `w[31]` is no part of it (30_encoding.md R95; 43_decoder.md R179). -/
def shortAddr (w : Word) : Address := (w.extractLsb' 24 7).setWidth 14

/-- Short form: `I = w[22:15]` (30_encoding.md R96). -/
def shortInstr (w : Word) : Byte := w.extractLsb' 15 8

/-- Long form: `addr = w[29:24] ++ w[22:15]`; the marker `w[31:30]` is no part of it (30_encoding.md R95; 43_decoder.md R180). -/
def longAddr (w : Word) : Address := w.extractLsb' 24 6 ++ w.extractLsb' 15 8

/-- Long form: `I = w[13:6]` (30_encoding.md R96). -/
def longInstr (w : Word) : Byte := w.extractLsb' 6 8

/-- The address of a word in the form the target selects: that choice reads the configuration alone (30_encoding.md R95, R102). -/
def addrField (p : Params) (w : Word) : Address :=
  if p.shortMode then shortAddr w else longAddr w

/-- The instruction byte of a word in the form the target selects (30_encoding.md R96, R102). -/
def instrField (p : Params) (w : Word) : Byte :=
  if p.shortMode then shortInstr w else longInstr w

end Sys2Proof.Machine
end

