-- ==== Sys2Proof/Machine/Flags.lean ====
section
/-! DEFINITION. The computed conditions of the core: the two checksums, the gate and the address test, which together decide
whether a word's instruction is carried out (43_decoder.md R178, R181 to R183, R204), and the output ports that show a flag
(30_encoding.md R104). -/

namespace Sys2Proof.Machine

/-- `CHK_SHORT(w)`: the XOR of `w[31:24]`, `w[22:15]` and `w[13:6]` is zero (43_decoder.md R181). -/
def chkShort (w : Word) : Bool :=
  w.extractLsb' 24 8 ^^^ w.extractLsb' 15 8 ^^^ w.extractLsb' 6 8 == 0#8

/-- `CHK_LONG(w)`: bits 7..3 of the same XOR agree with `w[4:0]` (43_decoder.md R182). -/
def chkLong (w : Word) : Bool :=
  (w.extractLsb' 24 8 ^^^ w.extractLsb' 15 8 ^^^ w.extractLsb' 6 8).extractLsb' 3 5 == w.extractLsb' 0 5

/-- `ok` of a word in the form the target selects (43_decoder.md R178 to R180). -/
def checksumOk (p : Params) (w : Word) : Bool :=
  if p.shortMode then chkShort w else chkLong w

/-- The checksum gate lets the word through: the gate is off, or the checksum is right (43_decoder.md R183). -/
def gatePasses (p : Params) (w : Word) : Bool :=
  !p.checksumGate || checksumOk p w

/-- The address matches: exactly equal, no mask, no broadcast, no marker check (43_decoder.md R204). -/
def addrMatches (p : Params) (w : Word) : Bool :=
  addrField p w == p.targetAddr

/-- The word's instruction is carried out: it passes the gate and its address matches (43_decoder.md R178). -/
def accepts (p : Params) (w : Word) : Bool :=
  gatePasses p w && addrMatches p w

/-- The output port `stuck_fault`, a level (30_encoding.md R104; 44_interface.md R213). -/
def stuckFaultPort (s : State) : Bool := s.stuckFault

/-- The output port `rd_valid`: the last button read gave a value (30_encoding.md R104; 44_interface.md R210). -/
def rdValid (s : State) : Bool :=
  match s.reply with
  | .button (some _) => true
  | .button none => false
  | .status _ => false
  | .none => false

/-- The output port `rd_value`: that value, 0 where `rd_valid` is 0 (30_encoding.md R104; 44_interface.md R210). -/
def rdValue (s : State) : Bool :=
  match s.reply with
  | .button (some b) => b
  | .button none => false
  | .status _ => false
  | .none => false

end Sys2Proof.Machine
end

