-- ==== Sys2Proof/Machine/Table.lean ====
section
/-! DEFINITION. The FunctionButtonTable: the merge of one group, and the pure functions GROUP and DECODE as the spec writes them
(43_decoder.md R178, R184, R185). The instructions' meanings use the merge; GROUP and DECODE are the spec's own second way of
saying what a decode does, against which the dispatch by instruction is stated. -/

namespace Sys2Proof.Machine

/-- `MERGE(t, base, pay)` (43_decoder.md R184). -/
def mergeGroup (t : Table) (base : Nat) (pay : Payload) : Table :=
  (t &&& ~~~(0xF#13 <<< base)) ||| (pay.setWidth 13 <<< base)

/-- The base of the F1–F4 group (30_encoding.md R100). -/
def baseF1F4 : Nat := 1

/-- The base of the F5–F8 group (30_encoding.md R100). -/
def baseF5F8 : Nat := 5

/-- The base of the F9–F12 group (30_encoding.md R100). -/
def baseF9F12 : Nat := 9

/-- `GROUP(I, t)` (43_decoder.md R185). -/
def groupUpdate (i : Byte) (t : Table) : Table :=
  if selectorOf i = 0b1000 ∨ selectorOf i = 0b1001 then mergeGroup t baseF1F4 (payloadOf i)
  else if selectorOf i = 0b1011 then mergeGroup t baseF5F8 (payloadOf i)
  else if selectorOf i = 0b1010 then mergeGroup t baseF9F12 (payloadOf i)
  else t

/-- `DECODE(w, t)` (43_decoder.md R178). -/
def decodeTable (p : Params) (w : Word) (t : Table) : Table :=
  if p.checksumGate && !checksumOk p w then t
  else if addrField p w != p.targetAddr then t
  else groupUpdate (instrField p w) t

/-- One group of the table is overwritten with the payload, the rest of the machine is kept: the effect shared by the four
function-group instructions (43_decoder.md R194 to R197). -/
def writeGroup (base : Nat) (pay : Payload) (s : State) : Host.Outcome State Fault Refusal :=
  .next { s with fbt := mergeGroup s.fbt base pay }

/-- The table is returned unchanged: the effect shared by the twelve selectors with no action (43_decoder.md R186 to R193, R198
to R201). -/
def keepTable (s : State) : Host.Outcome State Fault Refusal :=
  .next s

end Sys2Proof.Machine
end

