-- ==== Sys2Proof/Machine/FunctionGroups.lean ====
section
/-! DEFINITION. The meanings of the four function-group selectors: the payload overwrites the four table bits of its group
(43_decoder.md R194 to R197). -/

namespace Sys2Proof.Machine

/-- FG_F1F4_A (43_decoder.md R194): `fbt[1] <- I[0]` ... `fbt[4] <- I[3]`. -/
def execFgF1F4A (pay : Payload) (s : State) : Host.Outcome State Fault Refusal := writeGroup baseF1F4 pay s

/-- FG_F1F4_B (43_decoder.md R195): as FG_F1F4_A; `I[4]` is stored nowhere. -/
def execFgF1F4B (pay : Payload) (s : State) : Host.Outcome State Fault Refusal := writeGroup baseF1F4 pay s

/-- FG_F9F12 (43_decoder.md R196): `fbt[9] <- I[0]` ... `fbt[12] <- I[3]`. -/
def execFgF9F12 (pay : Payload) (s : State) : Host.Outcome State Fault Refusal := writeGroup baseF9F12 pay s

/-- FG_F5F8 (43_decoder.md R197): `fbt[5] <- I[0]` ... `fbt[8] <- I[3]`. -/
def execFgF5F8 (pay : Payload) (s : State) : Host.Outcome State Fault Refusal := writeGroup baseF5F8 pay s

end Sys2Proof.Machine
end

