-- ==== Sys2Proof/Machine/OtherSelectors.lean ====
section
/-! DEFINITION. The meanings of the seven "other" selectors, which are accepted and change nothing
(43_decoder.md R186 to R188, R198 to R201). -/

namespace Sys2Proof.Machine

/-- SEL_0000 (43_decoder.md R186): GROUP returns the table, whatever the payload. -/
def execSel0000 (_pay : Payload) (s : State) : Host.Outcome State Fault Refusal := keepTable s

/-- SEL_0001 (43_decoder.md R187): GROUP returns the table, whatever the payload. -/
def execSel0001 (_pay : Payload) (s : State) : Host.Outcome State Fault Refusal := keepTable s

/-- SEL_0010 (43_decoder.md R188): GROUP returns the table, whatever the payload. -/
def execSel0010 (_pay : Payload) (s : State) : Host.Outcome State Fault Refusal := keepTable s

/-- SEL_1100 (43_decoder.md R198): GROUP returns the table, whatever the payload. -/
def execSel1100 (_pay : Payload) (s : State) : Host.Outcome State Fault Refusal := keepTable s

/-- SEL_1101 (43_decoder.md R199): GROUP returns the table, whatever the payload. -/
def execSel1101 (_pay : Payload) (s : State) : Host.Outcome State Fault Refusal := keepTable s

/-- SEL_1110 (43_decoder.md R200): GROUP returns the table, whatever the payload. -/
def execSel1110 (_pay : Payload) (s : State) : Host.Outcome State Fault Refusal := keepTable s

/-- SEL_1111 (43_decoder.md R201): GROUP returns the table, whatever the payload. -/
def execSel1111 (_pay : Payload) (s : State) : Host.Outcome State Fault Refusal := keepTable s

end Sys2Proof.Machine
end

