-- ==== Sys2Proof/Machine/SpeedSelectors.lean ====
section
/-! DEFINITION. The meanings of the five speed-step selectors, which are recognised, marked "TBD" by the source, and change
nothing (43_decoder.md R189 to R193). -/

namespace Sys2Proof.Machine

/-- SEL_0011 (43_decoder.md R189): GROUP returns the table, whatever the payload. -/
def execSel0011 (_pay : Payload) (s : State) : Host.Outcome State Fault Refusal := keepTable s

/-- SEL_0100 (43_decoder.md R190): GROUP returns the table, whatever the payload. -/
def execSel0100 (_pay : Payload) (s : State) : Host.Outcome State Fault Refusal := keepTable s

/-- SEL_0101 (43_decoder.md R191): GROUP returns the table, whatever the payload. -/
def execSel0101 (_pay : Payload) (s : State) : Host.Outcome State Fault Refusal := keepTable s

/-- SEL_0110 (43_decoder.md R192): GROUP returns the table, whatever the payload. -/
def execSel0110 (_pay : Payload) (s : State) : Host.Outcome State Fault Refusal := keepTable s

/-- SEL_0111 (43_decoder.md R193): GROUP returns the table, whatever the payload. -/
def execSel0111 (_pay : Payload) (s : State) : Host.Outcome State Fault Refusal := keepTable s

end Sys2Proof.Machine
end

