-- ==== Sys2Proof/Machine/Dispatch.lean ====
section
/-! DEFINITION. exec: what GROUP does with the instruction byte of an accepted word, one arm per row of opcode_table.json
(43_decoder.md R185 to R201). -/

namespace Sys2Proof.Machine

def exec (i : Instr) (s : State) : Host.Outcome State Fault Refusal :=
  match i with
  | .sel0000 pay => Sys2Proof.Machine.execSel0000 pay s
  | .sel0001 pay => Sys2Proof.Machine.execSel0001 pay s
  | .sel0010 pay => Sys2Proof.Machine.execSel0010 pay s
  | .sel0011 pay => Sys2Proof.Machine.execSel0011 pay s
  | .sel0100 pay => Sys2Proof.Machine.execSel0100 pay s
  | .sel0101 pay => Sys2Proof.Machine.execSel0101 pay s
  | .sel0110 pay => Sys2Proof.Machine.execSel0110 pay s
  | .sel0111 pay => Sys2Proof.Machine.execSel0111 pay s
  | .fgF1F4A pay => Sys2Proof.Machine.execFgF1F4A pay s
  | .fgF1F4B pay => Sys2Proof.Machine.execFgF1F4B pay s
  | .fgF9F12 pay => Sys2Proof.Machine.execFgF9F12 pay s
  | .fgF5F8 pay => Sys2Proof.Machine.execFgF5F8 pay s
  | .sel1100 pay => Sys2Proof.Machine.execSel1100 pay s
  | .sel1101 pay => Sys2Proof.Machine.execSel1101 pay s
  | .sel1110 pay => Sys2Proof.Machine.execSel1110 pay s
  | .sel1111 pay => Sys2Proof.Machine.execSel1111 pay s

end Sys2Proof.Machine
end

