-- ==== Sys2Proof/Machine/PacketBuffer.lean ====
section
/-! DEFINITION. The PacketBuffer's three operations: publish begin, publish commit, take (42_packet_buffer.md R160 to R162).
None waits for another agent (R164). -/

namespace Sys2Proof.Machine

/-- `PUBLISH_BEGIN(w)`: the word goes into the cell that is not the latest (42_packet_buffer.md R160). -/
def publishBegin (w : Word) (s : State) : State :=
  { (s.setCell (otherCell s.latest) w).setSlot (otherCell s.latest) .producing with
    pubSlot := otherCell s.latest
    pubPending := true }

/-- A word still `READY` in this slot is dropped: superseded (42_packet_buffer.md R161). -/
def dropIfReady (i : CellIndex) (s : State) : State :=
  if s.slot i = .ready then s.setSlot i .empty else s

/-- `PUBLISH_COMMIT()` (42_packet_buffer.md R161). -/
def publishCommit (s : State) : State :=
  { dropIfReady (otherCell s.pubSlot) (s.setSlot s.pubSlot .ready) with
    latest := s.pubSlot
    pubPending := false }

/-- The first action of a producer tick: a due commit (40_sampler.md R120). -/
def commitIfPending (s : State) : State :=
  if s.pubPending then publishCommit s else s

/-- `TAKE()`: the latest cell's word if that slot is `READY`, and the state with the slot `EMPTY`
(42_packet_buffer.md R162). -/
def takeWord (s : State) : Option (Word × State) :=
  if s.slot s.latest = .ready then some (s.cell s.latest, s.setSlot s.latest .empty) else none

end Sys2Proof.Machine
end

