-- ==== Sys2Proof/Machine/PacketDecoder.lean ====
section
/-! DEFINITION. The PacketDecoder's three steps (43_decoder.md R175 to R177). A step that is not enabled changes nothing: the
decoder then simply has no move, which is no error (93_implementation_defined.md I19; 30_encoding.md R105; log 3). -/

namespace Sys2Proof.Machine

/-- The decoder takes this word: the guard is set and `APPLY` is due (43_decoder.md R175). -/
def beginDecode (w : Word) (s : State) : State :=
  { s with busy := true, decWord := w, decPhase := .apply }

/-- `DEC_START()`, enabled in `IDLE` with the latest slot `READY` (43_decoder.md R175). -/
def decStart (s : State) : State :=
  if s.decPhase = .idle then
    match takeWord s with
    | some (w, t) => beginDecode w t
    | none => s
  else s

/-- The phase moves on to `END` (43_decoder.md R176). -/
def finishApply (s : State) : State :=
  { s with decPhase := .finish }

/-- The table update is done: the phase moves on after the instruction's own effect; a stop stays a stop. -/
def afterApply (o : Host.Outcome State Fault Refusal) : Host.Outcome State Fault Refusal :=
  match o with
  | .next t => .next (finishApply t)
  | .fault r => .fault r
  | .refused r => .refused r

/-- `DEC_APPLY()`, enabled in `APPLY`: the instruction of an accepted word is executed, any other word changes no table
(43_decoder.md R176, R178). -/
def decApply (s : State) : Host.Outcome State Fault Refusal :=
  if s.decPhase = .apply then
    if accepts s.params s.decWord then afterApply (exec (decode (instrField s.params s.decWord)) s)
    else .next (finishApply s)
  else .next s

/-- `DEC_END()`, enabled in `END`: the guard is cleared (43_decoder.md R177). -/
def decEnd (s : State) : State :=
  if s.decPhase = .finish then { s with busy := false, decPhase := .idle } else s

end Sys2Proof.Machine
end

