-- ==== Sys2Proof/Machine/Synchronizer.lean ====
section
/-! DEFINITION. The FrameSynchronizer: `SYNC_STEP(bit)` (41_synchronizer.md R140 to R144). It checks no separator, end bit or
checksum (R145). -/

namespace Sys2Proof.Machine

/-- `((S.acc << 1) | zext_32(bit))[31:0]` (41_synchronizer.md R142). -/
def shiftIn (acc : Word) (bit : Bool) : Word :=
  (acc <<< 1) ||| (BitVec.ofBool bit).setWidth 32

/-- `S.sync_state <- x`. -/
def setSync (x : SyncState) (s : State) : State := { s with syncState := x }

/-- `S.acc <- a`. -/
def setAcc (a : Word) (s : State) : State := { s with acc := a }

/-- The state after `SeekPreamble(k)` (41_synchronizer.md R140). -/
def seekPreambleNext (k : Nat) (bit : Bool) : SyncState :=
  if bit then
    if k - 1 = 0 then .seekStartBit else .seekPreamble (k - 1)
  else .seekPreamble Config.preambleLen

/-- The `SeekStartBit` case: a 0 is the start bit, a 1 is padding (41_synchronizer.md R141). -/
def seekStartBitStep (bit : Bool) (s : State) : State :=
  if bit then s else setSync (.gathering (Config.frameBits - 1)) (setAcc 0 s)

/-- The `Gathering(n)` case: the bit is appended; at `n` = 0 the frame is complete (41_synchronizer.md R142, R143). -/
def gatherStep (n : Nat) (bit : Bool) (s : State) : State :=
  if n = 0 then
    setSync (.seekPreamble Config.preambleLen) (publishBegin (shiftIn s.acc bit) (setAcc (shiftIn s.acc bit) s))
  else setSync (.gathering (n - 1)) (setAcc (shiftIn s.acc bit) s)

/-- `SYNC_STEP(bit)` (41_synchronizer.md R144). -/
def syncStep (bit : Bool) (s : State) : State :=
  match s.syncState with
  | .seekPreamble k => setSync (seekPreambleNext k bit) s
  | .seekStartBit => seekStartBitStep bit s
  | .gathering n => gatherStep n bit s

end Sys2Proof.Machine
end

