-- ==== Sys2Proof/Machine/Sampler.lean ====
section
/-! DEFINITION. The BitSampler and the producer step `TICK(level)` (40_sampler.md R120 to R128). -/

namespace Sys2Proof.Machine

/-- The high run after this sample (40_sampler.md R126). -/
def countHigh (level : Bool) (s : State) : State :=
  { s with highRun := if level then min (s.highRun + 1) s.params.tStuckTicks else 0 }

/-- The LogicalBit this sample yields, if it is a classification tick: still high is a 0, already low a 1
(40_sampler.md R122, R124). -/
def sampledBit (level : Bool) (s : State) : Option Bool :=
  if s.smpState = .timing ∧ s.smpCount - 1 = 0 then some (!level) else none

/-- The sampler's own move on this sample (40_sampler.md R121 to R123). -/
def sampleMove (level : Bool) (s : State) : State :=
  match s.smpState with
  | .waitFall => if level then s else { s with smpState := .waitRise }
  | .waitRise => if level then { s with smpState := .timing, smpCount := s.params.tSampleTicks } else s
  | .timing =>
    if s.smpCount - 1 = 0 then
      { s with smpCount := s.smpCount - 1, smpState := if level then .waitFall else .waitRise }
    else { s with smpCount := s.smpCount - 1 }
  | .halted => s

/-- `if bit != none: SYNC_STEP(bit)` (40_sampler.md R120, R124). -/
def passBit (bit : Option Bool) (s : State) : State :=
  match bit with
  | none => s
  | some b => syncStep b s

/-- The last line of a tick: the fault when the high run has reached `T_STUCK_TICKS` (40_sampler.md R126). -/
def checkStuck (s : State) : State :=
  if s.highRun = s.params.tStuckTicks then raiseStuckHighFault s else s

/-- The part of a tick that a halted sampler skips (40_sampler.md R120, R127). -/
def sampleTick (level : Bool) (s : State) : State :=
  checkStuck (passBit (sampledBit level s) (sampleMove level (countHigh level s)))

/-- `TICK(level)`: due commit, halt test, high run, sampler case, synchronizer, stuck-high test, in this order
(40_sampler.md R120; 60_exceptions.md R232). -/
def tick (level : Bool) (s : State) : State :=
  if (commitIfPending s).smpState = .halted then commitIfPending s
  else sampleTick level (commitIfPending s)

end Sys2Proof.Machine
end

