-- ==== Sys2Proof/Machine/Agents.lean ====
section
/-! DEFINITION. One agent step, whole and atomic (00_scope.md R10; 20_memory.md R69), under the priority of the resets
(60_exceptions.md R232; 70_reset_and_hazards.md R262). -/

namespace Sys2Proof.Machine

/-- This step drives `rst` to 1. -/
def assertsRst (a : AgentStep) : Bool :=
  match a with
  | .driveResets rst _ => rst
  | .tick _ => false
  | .decStart => false
  | .decApply => false
  | .decEnd => false
  | .readButton _ => false
  | .readStatus => false
  | .driveTarget _ => false

/-- An instant of the full reset: `rst` is asserted, is held, or was held up to now and is released. No agent's own step is
taken; the reset is (70_reset_and_hazards.md R260, R262; log 6). Only now may the target address change (R265, R266). -/
def resetInstant (a : AgentStep) (s : State) : Host.Outcome State Fault Refusal :=
  match a with
  | .driveResets rst smpRestart => .next (fullReset (setPins rst smpRestart s))
  | .driveTarget addr =>
    if targetLegal addr then .next (fullReset (setTarget addr s)) else .refused .targetAddrOutOfRange
  | .tick _ => .next (fullReset s)
  | .decStart => .next (fullReset s)
  | .decApply => .next (fullReset s)
  | .decEnd => .next (fullReset s)
  | .readButton _ => .next (fullReset s)
  | .readStatus => .next (fullReset s)

/-- One step with `rst` released. While `smp_restart` is asserted a sample cycle is a RESTART and no tick, and the decoder and
the host go on (70_reset_and_hazards.md R261, R262; log 7). The target address stays as it is (R266). -/
def runStep (a : AgentStep) (s : State) : Host.Outcome State Fault Refusal :=
  match a with
  | .tick level => .next (if s.restartPin then restartSampler s else tick level s)
  | .decStart => .next (decStart s)
  | .decApply => decApply s
  | .decEnd => .next (decEnd s)
  | .readButton i => .next (readButtonStep i s)
  | .readStatus => .next (readStatusStep s)
  | .driveResets rst smpRestart =>
    .next (if smpRestart then restartSampler (setPins rst smpRestart s) else setPins rst smpRestart s)
  | .driveTarget addr =>
    if addr = s.params.targetAddr then .next s else .refused .targetChangedOutsideReset

/-- One agent step: under `rst` the reset, else the step itself once the invariants of 10_state.md R40 have been found whole
(60_exceptions.md R233). -/
def takeStep (a : AgentStep) (s : State) : Host.Outcome State Fault Refusal :=
  if s.rstPin || assertsRst a then resetInstant a s
  else
    match s.brokenClause with
    | some n => .fault (.invariantBroken n)
    | none => runStep a s

end Sys2Proof.Machine
end

