-- ==== Sys2Proof/Machine/Fetch.lean ====
section
/-! DEFINITION. How an instruction byte is placed where the machine will run it next. The core fetches nothing
(10_state.md R36; 20_memory.md R74): its instructions come in over the line, inside a packet that the decoder takes. -/

namespace Sys2Proof.Machine

/-- The decoder has just taken a word that carries this instruction byte to this instance, and its `DEC_APPLY` comes next: what
a packet on the line, its commit and `DEC_START` leave (43_decoder.md R175; log 9). -/
def placeInstrByte (b : Byte) (s : State) : State :=
  { s with
    rstPin := false
    decPhase := .apply
    busy := true
    decWord := s.params.wordFor b
    schedule := .decApply :: s.schedule }

end Sys2Proof.Machine
end

