-- ==== Sys2Proof/Machine/Step.lean ====
section
/-! DEFINITION. The machine's step: one step of one agent, chosen by the schedule or by the free value. -/

namespace Sys2Proof.Machine

/-- One step. An instance whose parameters break 00_scope.md R8 is refused; every other takes its next agent step. -/
def step (s : State) : Host.Outcome State Fault Refusal :=
  match paramProblem s.params with
  | some r => .refused r
  | none => takeStep s.nextStep s.consume

/-- `s` with the table's `nbits` bits `w`, one instruction byte, placed so that the very next step runs it. A row of another
length does not exist, and changes nothing. -/
def State.withFetchWord (s : State) (nbits w : Nat) : State :=
  if nbits = 8 then placeInstrByte (BitVec.ofNat 8 w) s else s

end Sys2Proof.Machine
end

