-- ==== Sys2Proof/Machine/Stream.lean ====
section
/-! DEFINITION. Packets on the wire as bits and as line levels: the stream notation of 30_encoding.md R105 to R108, and the runs
of the producer over such streams. -/

namespace Sys2Proof.Machine

/-- `ONES n` (30_encoding.md R105). -/
def ones (n : Nat) : List Bool := List.replicate n true

/-- `BYTE b`: eight bits, most significant first (30_encoding.md R105; 20_memory.md R64). -/
def byteBits (b : Byte) : List Bool :=
  [b.getLsbD 7, b.getLsbD 6, b.getLsbD 5, b.getLsbD 4, b.getLsbD 3, b.getLsbD 2, b.getLsbD 1, b.getLsbD 0]

/-- `PKT_S` with its address, instruction and checksum bytes and a preamble of `pre` ones (30_encoding.md R91, R106). -/
def pktShort (addr instr chk : Byte) (pre : Nat) : List Bool :=
  ones pre ++ [false] ++ byteBits addr ++ [false] ++ byteBits instr ++ [false] ++ byteBits chk ++ ones 1

/-- `PKT_L` with its two address bytes, instruction and checksum bytes and a preamble of `pre` ones
(30_encoding.md R92, R106). -/
def pktLong (addr1 addr2 instr chk : Byte) (pre : Nat) : List Bool :=
  ones pre ++ [false] ++ byteBits addr1 ++ [false] ++ byteBits addr2 ++ [false] ++ byteBits instr ++ [false] ++
    byteBits chk ++ ones 1

/-- A short packet with two instruction bytes `I1`, `I2` and its checksum byte, a preamble of `pre` ones (43_decoder.md R202). -/
def pktTwoInstr (addr instr1 instr2 chk : Byte) (pre : Nat) : List Bool :=
  ones pre ++ [false] ++ byteBits addr ++ [false] ++ byteBits instr1 ++ [false] ++ byteBits instr2 ++ [false] ++
    byteBits chk ++ ones 1

/-- `IDLE_PKT`: `PKT_S 0xFF, 0x00` with the default preamble of 14 (30_encoding.md R106). -/
def idlePkt : List Bool := pktShort 0xFF 0x00 0xFF 14

/-- A well-formed packet that carries this instruction byte to this instance, in the form the target selects, with its right
checksum and a preamble of `pre` ones (30_encoding.md R91, R92, R106). -/
def packetFor (p : Params) (instr : Byte) (pre : Nat) : List Bool :=
  if p.shortMode then
    let a : Byte := p.targetAddr.setWidth 8
    pktShort a instr (a ^^^ instr) pre
  else
    let b1 := longByte1 p.targetAddr
    let b2 := longByte2 p.targetAddr
    pktLong b1 b2 instr (b1 ^^^ b2 ^^^ instr) pre

/-- One LogicalBit to the synchronizer, a completed word being committed before the next bit (30_encoding.md R105, R108). -/
def feedBit (s : State) (b : Bool) : State := commitIfPending (syncStep b s)

/-- What a whole frame does: its word is begun, committed and left in the accumulator, and the next preamble is sought
(41_synchronizer.md R143; 42_packet_buffer.md R160, R161). -/
def deliverWord (w : Word) (s : State) : State :=
  setSync (.seekPreamble Config.preambleLen) (setAcc w (publishCommit (publishBegin w s)))

/-- A bit program: its bits in order (30_encoding.md R105). -/
def feedBits (bits : List Bool) (s : State) : State := bits.foldl feedBit s

/-- One bit as line samples: `H_b` high, then `H_b` low (30_encoding.md R90, R108). -/
def bitLevels (h1 h0 : Nat) (b : Bool) : List Bool :=
  if b then List.replicate h1 true ++ List.replicate h1 false
  else List.replicate h0 true ++ List.replicate h0 false

/-- `levels(P)`: a bit program as line samples (30_encoding.md R108). -/
def levels (h1 h0 : Nat) (bits : List Bool) : List Bool := bits.flatMap (bitLevels h1 h0)

/-- Producer ticks over these line samples, in order (40_sampler.md R120). -/
def runTicks (samples : List Bool) (s : State) : State := samples.foldl (fun t level => tick level t) s

/-- The bounds under which the sampler emits exactly a program's bits (30_encoding.md R108). -/
def levelsFit (p : Params) (h1 h0 : Nat) : Bool :=
  decide (h1 ≤ p.tSampleTicks) && decide (p.tSampleTicks < 2 * h1 - 1) && decide (p.tSampleTicks + 1 ≤ h0) &&
    decide (h0 < p.tStuckTicks)

end Sys2Proof.Machine
end

