-- ==== Sys2Proof/Safety.lean ====
section
/-! DEFINITION. What counts as a safe state, in the terms the statements use: the legal values and ranges of 10_state.md, the
reset table, and the four error classes of 60_exceptions.md. -/

namespace Sys2Proof.Machine

/-- The legal values of `S.sync_state`: 42 in all (10_state.md R24). -/
def SyncState.legal (x : SyncState) : Bool :=
  match x with
  | .seekPreamble k => decide (1 ≤ k) && decide (k ≤ 10)
  | .seekStartBit => true
  | .gathering n => decide (n ≤ 31)

/-- In `Gathering(n)` the accumulator's bits above its low `31-n` are zero (10_state.md R25). -/
def State.accFits (s : State) : Bool :=
  match s.syncState with
  | .seekPreamble _ => true
  | .seekStartBit => true
  | .gathering n => decide (s.acc.toNat < 2 ^ (31 - n))

/-- What the sampler's two counters hold in each of its states, with `T_STUCK_TICKS` at least `T_SAMPLE_TICKS` + 2: the line was
low when `WAIT_RISE` was entered (40_sampler.md R123), the countdown runs only in `TIMING` (10_state.md R21), and only a
halted sampler has a full high run (40_sampler.md R126). -/
abbrev State.samplerFits (s : State) : Prop :=
  (s.smpState = .waitRise → s.highRun = 0) ∧
    (s.smpState = .timing → s.highRun + s.smpCount ≤ s.params.tSampleTicks + 1) ∧
    (s.smpState ≠ .timing → s.smpCount = 0) ∧
    (s.smpState ≠ .halted → s.highRun < s.params.tStuckTicks) ∧
    (s.smpState = .halted → s.highRun = s.params.tStuckTicks)

/-- Every element within the range its rule gives it (10_state.md R21, R22, R24, R25). -/
abbrev State.InRange (s : State) : Prop :=
  s.smpCount ≤ s.params.tSampleTicks ∧ s.highRun ≤ s.params.tStuckTicks ∧ s.syncState.legal = true ∧ s.accFits = true ∧
    s.samplerFits

/-- A safe state of a legal instance: the invariants of 10_state.md R40 and every range. -/
abbrev State.Safe (s : State) : Prop := s.params.wf = true ∧ s.Inv ∧ s.InRange

/-- Every element of the core at the value of 10_state.md R39, whatever the parameters, the ports and the environment. -/
abbrev State.AtReset (s : State) : Prop :=
  s = { State.resetFor s.params with
        rstPin := s.rstPin, restartPin := s.restartPin, reply := s.reply, schedule := s.schedule, draws := s.draws }

/-- The parameters, the ports and what is scheduled are the same in both states. -/
@[simp] abbrev SameEnvironment (s t : State) : Prop :=
  t.params = s.params ∧ t.rstPin = s.rstPin ∧ t.restartPin = s.restartPin ∧ t.schedule = s.schedule ∧ t.draws = s.draws

/-- What only the producer writes is the same in both states (60_exceptions.md R235). -/
@[simp] abbrev SameProducer (s t : State) : Prop :=
  t.smpState = s.smpState ∧ t.smpCount = s.smpCount ∧ t.highRun = s.highRun ∧ t.stuckFault = s.stuckFault ∧
    t.syncState = s.syncState ∧ t.acc = s.acc ∧ t.pubPending = s.pubPending ∧ t.pubSlot = s.pubSlot ∧
    t.cell0 = s.cell0 ∧ t.cell1 = s.cell1 ∧ t.latest = s.latest

/-- What only the decoder writes is the same in both states (60_exceptions.md R235). -/
@[simp] abbrev SameDecoder (s t : State) : Prop :=
  t.decPhase = s.decPhase ∧ t.decWord = s.decWord ∧ t.busy = s.busy ∧ t.fbt = s.fbt

/-- The two slots, which both agents write, are the same in both states. -/
@[simp] abbrev SameSlots (s t : State) : Prop := t.slot0 = s.slot0 ∧ t.slot1 = s.slot1

/-- The error classes (60_exceptions.md R225). -/
inductive ErrorClass
  | stuckHigh
  | framingNoise
  | checksumMismatch
  | busyContention
deriving DecidableEq, Repr

/-- The cause codes, for reference by models and tests only (60_exceptions.md R226). -/
def ErrorClass.code (e : ErrorClass) : Nat :=
  match e with
  | .stuckHigh => 1
  | .framingNoise => 2
  | .checksumMismatch => 3
  | .busyContention => 4

/-- Class 1 has happened and has not been left (60_exceptions.md R226). -/
abbrev State.stuckHighNow (s : State) : Prop := s.smpState = .halted

/-- Class 3 is due: the word about to be applied fails its checksum with the gate on (60_exceptions.md R226). -/
abbrev State.checksumMismatchNow (s : State) : Prop :=
  s.decPhase = .apply ∧ s.params.checksumGate = true ∧ checksumOk s.params s.decWord = false

/-- Class 4: a button read now would find the guard set (60_exceptions.md R226). -/
abbrev State.busyContentionNow (s : State) : Prop := s.busy = true

/-- The step that comes next is taken by the core with no reset in force. -/
abbrev State.Running (s : State) : Prop := s.params.wf = true ∧ s.Inv ∧ s.rstPin = false

end Sys2Proof.Machine
end

