-- ==== Sys2Proof/Certificates/Slice0/Obligations.lean ====
section
/-! DEFINITION. The statements for the provers, taken from the numbered rules of spec/. Each is about every state and every
parameter it names; none is about a program. -/

open Sys2Proof Sys2Proof.Machine

/-! ### Encoding -/

/-- The example words of 43_decoder.md R186 to R201 (short form) and R180 (long form) carry the instructions they stand for. -/
def Obligations.ExampleWordsDecode : Prop :=
  decode (shortInstr 0x030281BF) = .sel0000 5 ∧ decode (shortInstr 0x030A85BF) = .sel0001 5 ∧
  decode (shortInstr 0x031289BF) = .sel0010 5 ∧ decode (shortInstr 0x031A8DBF) = .sel0011 5 ∧
  decode (shortInstr 0x032291BF) = .sel0100 5 ∧ decode (shortInstr 0x032A95BF) = .sel0101 5 ∧
  decode (shortInstr 0x033299BF) = .sel0110 5 ∧ decode (shortInstr 0x033A9DBF) = .sel0111 5 ∧
  decode (shortInstr 0x0342A1BF) = .fgF1F4A 5 ∧ decode (shortInstr 0x034AA5BF) = .fgF1F4B 5 ∧
  decode (shortInstr 0x0352A9BF) = .fgF9F12 5 ∧ decode (shortInstr 0x035AADBF) = .fgF5F8 5 ∧
  decode (shortInstr 0x0362B1BF) = .sel1100 5 ∧ decode (shortInstr 0x036AB5BF) = .sel1101 5 ∧
  decode (shortInstr 0x0372B9BF) = .sel1110 5 ∧ decode (shortInstr 0x037ABDBF) = .sel1111 5 ∧
  decode (longInstr 0xC06427D2) = .fgF1F4B 15 ∧ decode (longInstr 0xE77FAD95) = .fgF5F8 6

/-- Decode and encode agree, through the whole RawPacketWord: for every instance and every instruction, the well-formed word
that carries the instruction to that instance is accepted by it and decodes to that instruction. -/
def Obligations.EncodedInstructionIsDecoded : Prop :=
  ∀ (p : Params) (i : Instr),
    decode (encode i) = i ∧
    accepts p (p.wordFor (encode i)) = true ∧
    decode (instrField p (p.wordFor (encode i))) = i

/-- Every value of the eight instruction bits is exactly one instruction's, and no other length is accepted. -/
def Obligations.EveryByteIsOneInstruction : Prop :=
  (∀ b : Byte, ∃ i, decodeTableWord 8 b.toNat = some i) ∧
  ∀ (nbits w : Nat) (i : Instr), decodeTableWord nbits w = some i ↔ nbits = 8 ∧ w = (encode i).toNat

/-- R206: the long packet for an address, sent on the line from `SeekPreamble(10)`, gives a word whose long address is exactly
that address, and distinct addresses have distinct first two bytes. -/
def Obligations.LongAddressRoundTrip : Prop :=
  (∀ (s : State) (a : Address) (i : Byte) (pre : Nat),
    s.syncState = .seekPreamble 10 → s.pubPending = false → 10 ≤ pre → 128 ≤ a.toNat → a.toNat ≤ 10239 →
    let t := feedBits (pktLong (longByte1 a) (longByte2 a) i (longByte1 a ^^^ longByte2 a ^^^ i) pre) s
    longAddr (t.cell t.latest) = a ∧ t.slot t.latest = .ready) ∧
  ∀ a b : Address, longByte1 a = longByte1 b → longByte2 a = longByte2 b → a = b

/-- R181: the short checksum of a word laid out from its fields holds exactly when the checksum byte is the XOR of the address
byte and the instruction byte. -/
def Obligations.ShortChecksumIsXor : Prop :=
  ∀ (a i c : Byte) (tail : BitVec 6),
    (chkShort (packShort a i c tail) = true ↔ a ^^^ i ^^^ c = 0) ∧
    (chkShort (packShort a i c tail) = true ↔ c = a ^^^ i)

/-- R182: the long checksum compares the five checksum bits the word holds with the same bits of the XOR; an error confined to
checksum bits `C[2:0]` is not detected, one in `C[7:3]` is (decision D12 of the spec). -/
def Obligations.LongChecksumIsFiveBits : Prop :=
  ∀ (b1 b2 i c : Byte),
    (chkLong (packLong b1 b2 i (c.extractLsb' 3 5)) = true ↔ ∀ j, 3 ≤ j → j < 8 → c.getLsbD j = (b1 ^^^ b2 ^^^ i).getLsbD j)

/-- R202: a short packet with two instruction bytes `I1`, `I2`, sent on the line while a preamble or a start bit is sought, gives a
word with `I2` where the checksum is expected; the gate discards such a word unless the XOR of address, `I1` and `I2` is zero, and
without the gate `I1` is dispatched; the rule's example. -/
def Obligations.SecondInstructionByteIsReadAsChecksum : Prop :=
  (∀ (s : State) (k : Nat) (a i1 i2 c : Byte) (pre : Nat),
    (s.syncState = .seekPreamble k ∧ 1 ≤ k ∧ k ≤ 10 ∨ s.syncState = .seekStartBit) → s.pubPending = false → 10 ≤ pre →
    feedBits (pktTwoInstr a i1 i2 c pre) s =
      feedBits [c.getLsbD 2, c.getLsbD 1, c.getLsbD 0, true]
        (deliverWord (packShort a i1 i2 (0#1 ++ c.extractLsb' 3 5)) s)) ∧
  (∀ (p : Params) (a i1 i2 : Byte) (tail : BitVec 6) (t : Table),
    p.shortMode = true →
    decodeTable p (packShort a i1 i2 tail) t =
      if p.checksumGate = true ∧ a ^^^ i1 ^^^ i2 ≠ 0 then t
      else if (a.extractLsb' 0 7).setWidth 14 = p.targetAddr then groupUpdate i1 t else t) ∧
  ∀ p : Params, p.targetAddr = 3 →
    packShort 0x03 0x85 0xB3 (0#1 ++ (0x35 : Byte).extractLsb' 3 5) = 0x0342ACC6 ∧
    decodeTable p 0x0342ACC6 0 = if p.checksumGate then 0 else 0x000A

/-- R203 (decision D13 of the spec): DECODE reads no separator position and not the bits after the checksum. -/
def Obligations.SeparatorsAreNotRead : Prop :=
  ∀ (p : Params) (w v : Word) (t : Table),
    (∀ j, j < 32 → j ≠ 23 → j ≠ 14 → (p.shortMode = true → 5 < j) → (p.shortMode = false → j ≠ 5) →
      w.getLsbD j = v.getLsbD j) →
    decodeTable p w t = decodeTable p v t

/-! ### Instructions: results, frames, completion -/

/-- R194: FG_F1F4_A, selector `0b1000`, completes in every state, writes the payload into F1..F4, bits 0 and 5..12 unchanged, and
changes nothing else; a repeat changes nothing; GROUP gives the same table; the rule's example. -/
def Obligations.F1F4AWritesItsGroup : Prop :=
  (∀ (pay : Payload) (s : State), ∃ t, exec (.fgF1F4A pay) s = .next t ∧ t = { s with fbt := t.fbt } ∧
    (∀ j, t.fbt.getLsbD j = if 1 ≤ j ∧ j ≤ 4 then pay.getLsbD (j - 1) else s.fbt.getLsbD j) ∧
    exec (.fgF1F4A pay) t = .next t ∧
    encode (.fgF1F4A pay) = 0b1000#4 ++ pay ∧ groupUpdate (0b1000#4 ++ pay) s.fbt = t.fbt ∧
    t.fbt = mergeGroup s.fbt 1 pay) ∧
  ∀ p : Params, p.targetAddr = 3 → decodeTable p 0x0342A1BF 0x1FFE = 0x1FEA

/-- R195 (decision D10 of the spec): FG_F1F4_B, selector `0b1001`, completes in every state and does exactly what FG_F1F4_A does:
bit 4 of the byte is stored nowhere. -/
def Obligations.F1F4BWritesTheSameGroup : Prop :=
  ∀ (pay : Payload) (s : State), ∃ t, exec (.fgF1F4B pay) s = .next t ∧ exec (.fgF1F4A pay) s = .next t ∧
    t = { s with fbt := t.fbt } ∧
    (∀ j, t.fbt.getLsbD j = if 1 ≤ j ∧ j ≤ 4 then pay.getLsbD (j - 1) else s.fbt.getLsbD j) ∧
    encode (.fgF1F4B pay) = 0b1001#4 ++ pay

/-- R196: FG_F9F12, selector `0b1010`, completes in every state, writes the payload into F9..F12, bits 0..8 unchanged, and changes
nothing else; GROUP gives the same table; the rule's two examples. -/
def Obligations.F9F12WritesItsGroup : Prop :=
  (∀ (pay : Payload) (s : State), ∃ t, exec (.fgF9F12 pay) s = .next t ∧ t = { s with fbt := t.fbt } ∧
    (∀ j, t.fbt.getLsbD j = if 9 ≤ j ∧ j ≤ 12 then pay.getLsbD (j - 9) else s.fbt.getLsbD j) ∧
    encode (.fgF9F12 pay) = 0b1010#4 ++ pay ∧ groupUpdate (0b1010#4 ++ pay) s.fbt = t.fbt ∧
    t.fbt = mergeGroup s.fbt 9 pay) ∧
  ∀ p : Params,
    (p.targetAddr = 3 → decodeTable p 0x0352A9BF 0x1FFE = 0x0BFE) ∧
    (p.targetAddr = 82 → decodeTable p 0x5254BEFF 0 = 0x1200)

/-- R197: FG_F5F8, selector `0b1011`, completes in every state, writes the payload into F5..F8, bits 0..4 and 9..12 unchanged, and
changes nothing else; GROUP gives the same table; the rule's example, and its scenario for address 82 as button values. -/
def Obligations.F5F8WritesItsGroup : Prop :=
  (∀ (pay : Payload) (s : State), ∃ t, exec (.fgF5F8 pay) s = .next t ∧ t = { s with fbt := t.fbt } ∧
    (∀ j, t.fbt.getLsbD j = if 5 ≤ j ∧ j ≤ 8 then pay.getLsbD (j - 5) else s.fbt.getLsbD j) ∧
    encode (.fgF5F8 pay) = 0b1011#4 ++ pay ∧ groupUpdate (0b1011#4 ++ pay) s.fbt = t.fbt ∧
    t.fbt = mergeGroup s.fbt 5 pay) ∧
  ∀ p : Params,
    (p.targetAddr = 3 → decodeTable p 0x035AADBF 0x1FFE = 0x1EBE) ∧
    (p.targetAddr = 82 → ∀ (t : Table) (j : Nat),
      (decodeTable p 0x525AB9FF t).getLsbD j =
        if j = 5 ∨ j = 7 then true else if j = 6 ∨ j = 8 then false else t.getLsbD j)

/-- R186 to R188, R198 to R201: the seven "other" selectors complete in every state and change nothing at all; GROUP returns the
table it is given; each rule's example; the idle packet's word that matches target 127 changes nothing. -/
def Obligations.OtherSelectorsChangeNothing : Prop :=
  (∀ (pay : Payload) (s : State),
    exec (.sel0000 pay) s = .next s ∧ exec (.sel0001 pay) s = .next s ∧ exec (.sel0010 pay) s = .next s ∧
    exec (.sel1100 pay) s = .next s ∧ exec (.sel1101 pay) s = .next s ∧ exec (.sel1110 pay) s = .next s ∧
    exec (.sel1111 pay) s = .next s) ∧
  (∀ (sel : Selector) (pay : Payload) (t : Table),
    sel ∈ [0b0000, 0b0001, 0b0010, 0b1100, 0b1101, 0b1110, 0b1111] → groupUpdate (sel ++ pay) t = t) ∧
  (∀ (p : Params) (w : Word), p.targetAddr = 3 →
    w ∈ [0x030281BF, 0x030A85BF, 0x031289BF, 0x0362B1BF, 0x036AB5BF, 0x0372B9BF, 0x037ABDBF] →
    accepts p w = true ∧ decodeTable p w 0x1FFE = 0x1FFE) ∧
  ∀ (p : Params) (t : Table), p.targetAddr = 127 → addrField p 0xFF003FFF = 127 ∧ decodeTable p 0xFF003FFF t = t

/-- R189 to R193: the five speed-step selectors complete in every state and change nothing at all; GROUP returns the table it is
given; each rule's example. -/
def Obligations.SpeedSelectorsChangeNothing : Prop :=
  (∀ (pay : Payload) (s : State),
    exec (.sel0011 pay) s = .next s ∧ exec (.sel0100 pay) s = .next s ∧ exec (.sel0101 pay) s = .next s ∧
    exec (.sel0110 pay) s = .next s ∧ exec (.sel0111 pay) s = .next s) ∧
  (∀ (sel : Selector) (pay : Payload) (t : Table),
    sel ∈ [0b0011, 0b0100, 0b0101, 0b0110, 0b0111] → groupUpdate (sel ++ pay) t = t) ∧
  ∀ (p : Params) (w : Word), p.targetAddr = 3 →
    w ∈ [0x031A8DBF, 0x032291BF, 0x032A95BF, 0x033299BF, 0x033A9DBF] →
    accepts p w = true ∧ decodeTable p w 0x1FFE = 0x1FFE

/-- R185: the dispatch by instruction is GROUP, written out: executing the instruction of a byte completes in every state and
merges the low nibble at 1, 5 or 9 by the high nibble, or keeps the table; nothing else changes. -/
def Obligations.DispatchIsGroup : Prop :=
  ∀ (sel : Selector) (pay : Payload) (s : State),
    exec (decode (sel ++ pay)) s = .next { s with fbt := (
      if sel = 0b1000 ∨ sel = 0b1001 then mergeGroup s.fbt 1 pay
      else if sel = 0b1011 then mergeGroup s.fbt 5 pay
      else if sel = 0b1010 then mergeGroup s.fbt 9 pay
      else s.fbt) } ∧
    exec (decode (sel ++ pay)) s = .next { s with fbt := groupUpdate (sel ++ pay) s.fbt }

/-- R184: a merge overwrites the four bits at its base with the payload and keeps every other bit, for the bases 1, 5 and 9; the
rule's example. -/
def Obligations.MergeOverwritesItsGroup : Prop :=
  (∀ (t : Table) (base : Nat) (pay : Payload), base = 1 ∨ base = 5 ∨ base = 9 →
    mergeGroup t base pay = (t &&& ~~~(0xF#13 <<< base)) ||| (pay.setWidth 13 <<< base) ∧
    ∀ j, (mergeGroup t base pay).getLsbD j =
      if base ≤ j ∧ j < base + 4 then pay.getLsbD (j - base) else t.getLsbD j) ∧
  mergeGroup 0x1FFE 5 0b0101 = 0x1EBE

/-- R205: the group laws, for the three group bases: a merge keeps every bit outside its group, is idempotent, commutes with a
merge of another group, and the last merge of a group wins. -/
def Obligations.MergeGroupLaws : Prop :=
  ∀ (t : Table) (g h : Nat) (p q : Payload),
    g ∈ [baseF1F4, baseF5F8, baseF9F12] → h ∈ [baseF1F4, baseF5F8, baseF9F12] →
    (∀ j, (j < g ∨ g + 4 ≤ j) → (mergeGroup t g p).getLsbD j = t.getLsbD j) ∧
    mergeGroup (mergeGroup t g p) g p = mergeGroup t g p ∧
    (g ≠ h → mergeGroup (mergeGroup t g p) h q = mergeGroup (mergeGroup t h q) g p) ∧
    mergeGroup (mergeGroup t g p) g q = mergeGroup t g q

/-- A step runs the decoded instruction: when `DEC_APPLY` comes next on an accepted word whose instruction byte decodes to `i`,
the step is `exec i`, then the phase moves on to `END` (that `DEC_APPLY` does both is the model's reading, log 10). -/
def Obligations.StepRunsTheDecodedInstruction : Prop :=
  ∀ (s : State) (i : Instr),
    s.Running → s.nextStep = .decApply → s.decPhase = .apply → accepts s.params s.decWord = true →
    decode (instrField s.params s.decWord) = i →
    step s = afterApply (exec i s.consume)

/-- Whatever the state, an instruction byte placed for execution (how it is placed is the model's choice, log 9) is the one the
very next step runs, and that step completes. -/
def Obligations.PlacedInstructionRunsNext : Prop :=
  ∀ (s : State) (w : Nat) (i : Instr),
    s.params.wf = true → s.Inv → decodeTableWord 8 w = some i →
    ∃ t, exec i { s.withFetchWord 8 w with schedule := s.schedule } = .next t ∧
      step (s.withFetchWord 8 w) = .next { t with decPhase := .finish }

/-! ### The decoder's steps -/

/-- R176: in `APPLY`, `DEC_APPLY` writes `DECODE(S.dec_word, S.fbt)` into the whole table and moves on to `END`; nothing else
changes, the guard stays set; where DECODE returns its input the table is unchanged; the rule's example. -/
def Obligations.ApplyWritesDecode : Prop :=
  (∀ s : State,
    s.Running → s.nextStep = .decApply → s.decPhase = .apply →
    step s = .next { s.consume with fbt := decodeTable s.params s.decWord s.fbt, decPhase := .finish }) ∧
  ∀ p : Params, p.targetAddr = 3 → decodeTable p 0x0342A1BF 0x1FFE = 0x1FEA

/-- R175 (decision D16 of the spec): `DEC_START` in `IDLE` with the latest slot `READY` sets the guard, takes the latest cell's
word, matching or not, and leaves its slot `EMPTY`; nothing else changes. -/
def Obligations.StartTakesTheLatestWord : Prop :=
  ∀ s : State,
    s.Running → s.nextStep = .decStart → s.decPhase = .idle → s.slot s.latest = .ready →
    step s = .next { s.consume.setSlot s.latest .empty with busy := true, decWord := s.cell s.latest, decPhase := .apply }

/-- R177: `DEC_END` in `END` clears the guard and goes back to `IDLE`, nothing else changes; from `DEC_START` up to this step, that
is in `APPLY` and in `END`, every button read gives no value. -/
def Obligations.EndClearsTheGuard : Prop :=
  (∀ (s : State) (i : BitVec 4),
    s.Inv → (s.decPhase = .apply ∨ s.decPhase = .finish) → readButton i s = none) ∧
  ∀ s : State,
    s.Running → s.nextStep = .decEnd → s.decPhase = .finish →
    step s = .next { s.consume with busy := false, decPhase := .idle }

/-- The model's choice (log 3; 93_implementation_defined.md I19): a decoder step asked for where it is not enabled changes nothing
and is no error. -/
def Obligations.DisabledDecoderStepsChangeNothing : Prop :=
  ∀ s : State, s.Running →
    (s.nextStep = .decStart → (s.decPhase ≠ .idle ∨ s.slot s.latest ≠ .ready) → step s = .next s.consume) ∧
    (s.nextStep = .decApply → s.decPhase ≠ .apply → step s = .next s.consume) ∧
    (s.nextStep = .decEnd → s.decPhase ≠ .finish → step s = .next s.consume)

/-- R183 (decision D11 of the spec): with the gate on, a word whose checksum is wrong leaves the table unchanged, whatever it
holds; with the gate off the checksum does not matter. -/
def Obligations.ChecksumGateDiscards : Prop :=
  (∀ (p : Params) (w : Word) (t : Table), p.checksumGate = true → checksumOk p w = false → decodeTable p w t = t) ∧
  ∀ (p : Params) (w : Word) (t : Table), p.checksumGate = false →
    decodeTable p w t = if addrField p w = p.targetAddr then groupUpdate (instrField p w) t else t

/-- R204: a word with any other address than the target's leaves the table unchanged, the broadcast address 0 among them. -/
def Obligations.OnlyTheExactAddressMatches : Prop :=
  ∀ (s : State),
    s.Running → s.nextStep = .decApply → s.decPhase = .apply →
    (addrField s.params s.decWord ≠ s.params.targetAddr ∨ addrField s.params s.decWord = 0) →
    step s = .next { s.consume with decPhase := .finish }

/-- After the three decoder steps on a word that carries a function-group instruction, the host reads the payload's bits from
that group's buttons and every other button as before. -/
def Obligations.DecodedButtonsReadBack : Prop :=
  ∀ (s : State) (base : Nat) (i : Instr) (pay : Payload) (rest : List AgentStep),
    s.Running → s.decPhase = .idle → s.slot s.latest = .ready →
    (base, i) ∈ [(1, .fgF1F4A pay), (1, .fgF1F4B pay), (9, .fgF9F12 pay), (5, .fgF5F8 pay)] →
    s.cell s.latest = s.params.wordFor (encode i) →
    s.schedule = .decStart :: .decApply :: .decEnd :: rest →
    ∃ t, Sys2Proof.core.run 3 s = .next t ∧ t.schedule = rest ∧ t.decPhase = .idle ∧
      ∀ k : BitVec 4, k.toNat ≤ 12 →
        readButton k t =
          some (if base ≤ k.toNat ∧ k.toNat < base + 4 then pay.getLsbD (k.toNat - base) else s.fbt.getLsbD k.toNat)

/-! ### The synchronizer -/

/-- R63: of the 32 bits gathered after the start bit, the first becomes bit 31 of the published word and the last bit 0. -/
def Obligations.FirstBitIsMostSignificant : Prop :=
  ∀ (s : State) (bits : List Bool),
    s.syncState = .gathering 31 → s.pubPending = false → bits.length = 32 →
    let t := feedBits bits s
    t.latest = otherCell s.latest ∧ t.slot t.latest = .ready ∧ t.syncState = .seekPreamble 10 ∧
      ∀ n, n < 32 → (t.cell t.latest).getLsbD n = bits.getD (31 - n) false

/-- R148: from `SeekPreamble(10)`, fewer than ten ones and a 0 lead back to `SeekPreamble(10)`, ten or more and a 0 to
`Gathering(31)`. -/
def Obligations.TenOnesMakeAPreamble : Prop :=
  ∀ (s : State) (n : Nat),
    s.syncState = .seekPreamble 10 → s.pubPending = false →
    (feedBits (ones n ++ [false]) s).syncState = if n ≤ 9 then .seekPreamble 10 else .gathering 31

/-- R149: `Gathering(n)` is left after exactly n + 1 bits, whatever they are; from every other legal state ten or more ones and a
0 start a new gathering at that 0. -/
def Obligations.SynchronizerAlwaysResynchronises : Prop :=
  (∀ (s : State) (n : Nat) (bits : List Bool),
    s.syncState = .gathering n → s.pubPending = false →
    (bits.length ≤ n → (feedBits bits s).syncState = .gathering (n - bits.length)) ∧
    (bits.length = n + 1 → (feedBits bits s).syncState = .seekPreamble 10)) ∧
  ∀ (s : State) (m : Nat),
    s.syncState.legal = true → (∀ n, s.syncState ≠ .gathering n) → s.pubPending = false → 10 ≤ m →
    (feedBits (ones m ++ [false]) s).syncState = .gathering 31

/-- A short packet after a preamble of at least ten ones, with the five bits after its end bit, publishes exactly the word of
30_encoding.md R93, whatever its three bytes and those five bits are. -/
def Obligations.ShortPacketIsGathered : Prop :=
  ∀ (s : State) (k : Nat) (a i c : Byte) (pre : Nat) (t4 t3 t2 t1 t0 : Bool),
    (s.syncState = .seekPreamble k ∧ 1 ≤ k ∧ k ≤ 10 ∨ s.syncState = .seekStartBit) → s.pubPending = false → 10 ≤ pre →
    let w := packShort a i c
      (BitVec.ofBool true ++ BitVec.ofBool t4 ++ BitVec.ofBool t3 ++ BitVec.ofBool t2 ++ BitVec.ofBool t1 ++ BitVec.ofBool t0)
    feedBits (pktShort a i c pre ++ [t4, t3, t2, t1, t0]) s = deliverWord w s

/-- A long packet after a preamble of at least ten ones publishes exactly the word of 30_encoding.md R94; checksum bits
`C[2:0]` and the end bit are then counted as preamble candidates (41_synchronizer.md R146). -/
def Obligations.LongPacketIsGathered : Prop :=
  ∀ (s : State) (k : Nat) (b1 b2 i c : Byte) (pre : Nat),
    (s.syncState = .seekPreamble k ∧ 1 ≤ k ∧ k ≤ 10 ∨ s.syncState = .seekStartBit) → s.pubPending = false → 10 ≤ pre →
    feedBits (pktLong b1 b2 i c pre) s =
      feedBits [c.getLsbD 2, c.getLsbD 1, c.getLsbD 0, true] (deliverWord (packLong b1 b2 i (c.extractLsb' 3 5)) s)

/-- R147, R268: after a short packet, a following preamble of m ones starts a gathering at its start bit exactly when m is at
least 15, since the first five of them complete the word before it. -/
def Obligations.ShortPacketCostsFivePreambleOnes : Prop :=
  ∀ (s : State) (a i c : Byte) (pre m : Nat),
    s.syncState = .seekPreamble 10 → s.pubPending = false → 10 ≤ pre → 5 ≤ m →
    (feedBits (pktShort a i c pre ++ ones m ++ [false]) s).syncState =
      if 15 ≤ m then .gathering 31 else .seekPreamble 10

/-- R269: after a long packet whose checksum bits `C[2:0]` are all ones, six preamble ones are enough for the next packet; where
`C[0]` is 0, nine are needed. -/
def Obligations.LongPacketGivesPreambleCredit : Prop :=
  ∀ (s : State) (b1 b2 i c : Byte) (pre m : Nat),
    s.syncState = .seekPreamble 10 → s.pubPending = false → 10 ≤ pre →
    (c.extractLsb' 0 3 = 0b111 →
      (feedBits (pktLong b1 b2 i c pre ++ ones m ++ [false]) s).syncState =
        if 6 ≤ m then .gathering 31 else .seekPreamble 10) ∧
    (c.getLsbD 0 = false →
      (feedBits (pktLong b1 b2 i c pre ++ ones m ++ [false]) s).syncState =
        if 9 ≤ m then .gathering 31 else .seekPreamble 10)

/-- R270: two commits are at least 43 bits apart: after a commit, which leaves `SeekPreamble(10)`, no stream of 42 bits publishes
anything. -/
def Obligations.CommitsAreFortyThreeBitsApart : Prop :=
  ∀ (s : State) (bits : List Bool),
    s.syncState = .seekPreamble 10 → s.pubPending = false → bits.length ≤ 42 →
    let t := feedBits bits s
    t.latest = s.latest ∧ t.cell0 = s.cell0 ∧ t.cell1 = s.cell1 ∧ t.slot0 = s.slot0 ∧ t.slot1 = s.slot1 ∧
      t.pubPending = false

/-! ### The sampler and the stuck-high fault -/

/-- R122 to R124: after a rising edge nothing is emitted before the tick `T_SAMPLE_TICKS` later; the level of that one sample
decides the bit (high a 0, low a 1), and the levels in between are not looked at. -/
def Obligations.OneSampleDecidesTheBit : Prop :=
  ∀ (s : State) (mid : List Bool) (level : Bool),
    s.Safe → s.smpState = .waitRise → mid.length + 1 = s.params.tSampleTicks →
    (∀ k l, k < s.params.tSampleTicks → sampledBit l (runTicks ((true :: mid).take k) s) = none) ∧
    sampledBit level (runTicks (true :: mid) s) = some (!level) ∧
    (runTicks (true :: mid) s).syncState = s.syncState ∧ (runTicks (true :: mid) s).acc = s.acc

/-- R108: under its bounds, the line samples of any bit program drive the whole producer to exactly the state that its bits,
fed one by one to the synchronizer with each commit right after its bit (log 17), lead to: the tick-level machine refines the
bit-level one. -/
def Obligations.LevelsDeliverExactlyTheBits : Prop :=
  ∀ (s : State) (h1 h0 : Nat) (bits : List Bool),
    s.Safe → s.smpState = .waitRise → s.pubPending = false → levelsFit s.params h1 h0 = true →
    runTicks (levels h1 h0 bits) s = feedBits bits s

/-- R126 (decision D5 of the spec): in any safe state that is not halted, with no high run yet, fewer than `T_STUCK_TICKS` high
samples in a row never fault, and that many or more leave the sampler halted with the fault flag set. -/
def Obligations.StuckHighIsDetectedInTime : Prop :=
  ∀ (s : State) (n : Nat),
    s.Safe → s.smpState ≠ .halted → s.highRun = 0 →
    (n < s.params.tStuckTicks →
      (runTicks (List.replicate n true) s).smpState ≠ .halted ∧ (runTicks (List.replicate n true) s).stuckFault = false ∧
        (runTicks (List.replicate n true ++ [false]) s).stuckFault = false) ∧
    (s.params.tStuckTicks ≤ n →
      (runTicks (List.replicate n true) s).smpState = .halted ∧ (runTicks (List.replicate n true) s).stuckFault = true)

/-- R127, R230, R275: while the sampler is halted, any number of ticks does nothing but a due commit: no bit, no count, no second
fault, the frame frozen. -/
def Obligations.HaltedTicksOnlyCommit : Prop :=
  ∀ (s : State) (level : Bool) (samples : List Bool),
    s.smpState = .halted → runTicks (level :: samples) s = commitIfPending s

/-- R228, R126: the fault flag is set only by a producer tick on a high sample that fills the high run; that step halts the
sampler and leaves the decoder alone. -/
def Obligations.OnlyAHighTickFaults : Prop :=
  ∀ s t : State,
    step s = .next t → s.stuckFault = false → t.stuckFault = true →
    s.nextStep = .tick true ∧ s.rstPin = false ∧ s.restartPin = false ∧
      t.smpState = .halted ∧ t.highRun = s.params.tStuckTicks ∧ SameDecoder s t

/-- R228: in a safe state, the high sample that completes the high run halts the sampler and sets the flag, and the step keeps
everything else: it makes its due commit, emits no bit and touches no other element. -/
def Obligations.FaultEntryKeepsEverythingElse : Prop :=
  ∀ s : State,
    s.Safe → s.rstPin = false → s.restartPin = false → s.nextStep = .tick true → s.smpState ≠ .halted →
    s.highRun + 1 = s.params.tStuckTicks →
    step s = .next { commitIfPending s.consume with
      highRun := s.params.tStuckTicks, stuckFault := true, smpState := .halted }

/-- R229, R263: the fault flag is cleared only by the full reset or the sampler restart, each of which may be held (logs 6, 7). -/
def Obligations.OnlyAResetClearsTheFault : Prop :=
  ∀ s t : State,
    step s = .next t → s.stuckFault = true → t.stuckFault = false →
    s.rstPin = true ∨ assertsRst s.nextStep = true ∨ s.nextStep = .driveResets false true ∨
      (s.restartPin = true ∧ ∃ level, s.nextStep = .tick level)

/-! ### The packet buffer -/

/-- R161, R165: of two words committed with no take in between, a take returns the second once and never the first; with a take
after each commit, it returns both in order. -/
def Obligations.SupersededWordsAreDropped : Prop :=
  ∀ (s : State) (a b : Word),
    (∃ t, takeWord (publishCommit (publishBegin b (publishCommit (publishBegin a s)))) = some (b, t) ∧ takeWord t = none) ∧
    ∃ t u, takeWord (publishCommit (publishBegin a s)) = some (a, t) ∧
      takeWord (publishCommit (publishBegin b t)) = some (b, u) ∧ takeWord u = none

/-- R162, R271: a take between a begin and its commit returns the older word, whole; the newer word is taken after the commit. -/
def Obligations.TakeBeforeCommitIsStaleButWhole : Prop :=
  ∀ (s : State) (a b : Word),
    ∃ t u, takeWord (publishBegin b (publishCommit (publishBegin a s))) = some (a, t) ∧
      takeWord (publishCommit t) = some (b, u) ∧ takeWord u = none

/-! ### The host -/

/-- R210: a button read answers no value while the guard is set or above index 12, else the table's bit, on the ports too; the
core keeps everything but the model's own record of the answer (log 8). -/
def Obligations.ButtonReadAnswers : Prop :=
  ∀ (s : State) (i : BitVec 4),
    s.Running → s.nextStep = .readButton i →
    ∃ t, step s = .next t ∧ t = { s.consume with reply := t.reply } ∧
      (s.busy = true ∨ 12 < i.toNat → t.reply = .button none ∧ rdValid t = false ∧ rdValue t = false) ∧
      (s.busy = false → i.toNat ≤ 12 →
        t.reply = .button (some (s.fbt.getLsbD i.toNat)) ∧ rdValid t = true ∧ rdValue t = s.fbt.getLsbD i.toNat)

/-- R213: a status read answers the fault flag, and the core keeps everything but the model's own record of the answer (log 8). -/
def Obligations.StatusReadAnswers : Prop :=
  ∀ s : State,
    s.Running → s.nextStep = .readStatus → step s = .next { s.consume with reply := .status s.stuckFault }

/-- R211: from `DEC_START` to `DEC_END` every button read gives no value, so no read sees a table that is being updated. -/
def Obligations.NoValueWhileDecoding : Prop :=
  ∀ (s : State) (i : BitVec 4), s.Inv → s.decPhase ≠ .idle → readButton i s = none

/-! ### The resets -/

/-- R260: from every state of a legal instance, whatever its invariants, asserting `rst` leaves every element at the value of
10_state.md R39 (decision D21 of the spec for most of them) in one step; the parameters and what is still scheduled stay; the port
stays asserted (log 6). -/
def Obligations.FullResetFromAnyState : Prop :=
  ∀ (s : State) (smpRestart : Bool),
    s.params.wf = true → s.nextStep = .driveResets true smpRestart →
    ∃ t, step s = .next t ∧ t.AtReset ∧ t.rstPin = true ∧ t.params = s.params ∧
      t.schedule = s.schedule.tail ∧ ∀ i : BitVec 4, i.toNat ≤ 12 → readButton i t = some false

/-- R262, R260 (3): while `rst` is held, no producer step, decoder step or host read is taken: each such instant is the reset again.
So is the instant that drives the ports or a legal target address, the instant that releases `rst` among them, so the state on
release is the reset state (that the releasing instant is still a reset is the model's reading, log 6). -/
def Obligations.HeldResetTakesNoOtherStep : Prop :=
  (∀ (s : State) (a : AgentStep),
    s.params.wf = true → s.rstPin = true → s.nextStep = a →
    a ∈ [.tick true, .tick false, .decStart, .decApply, .decEnd, .readStatus] ∨ (∃ i, a = .readButton i) →
    ∃ t, step s = .next t ∧ t.AtReset ∧ t.rstPin = true ∧ t.restartPin = s.restartPin ∧ t.reply = .none ∧ t.params = s.params) ∧
  (∀ (s : State) (rst smpRestart : Bool),
    s.params.wf = true → s.rstPin = true → s.nextStep = .driveResets rst smpRestart →
    ∃ t, step s = .next t ∧ t.AtReset ∧ t.rstPin = rst ∧ t.restartPin = smpRestart ∧ t.reply = .none ∧ t.params = s.params) ∧
  ∀ (s : State) (addr : Address),
    s.params.wf = true → s.rstPin = true → s.nextStep = .driveTarget addr → targetLegal addr = true →
    ∃ t, step s = .next t ∧ t.AtReset ∧ t.rstPin = true ∧ t.restartPin = s.restartPin ∧ t.reply = .none ∧
      t.params = { s.params with targetAddr := addr }

/-- R261: a sampler restart, by asserting `smp_restart` or by a sample cycle while it is held, resets the producer domain, abandons
a begun publication, and keeps the cells, every `READY` slot, `latest` and the decoder (decisions D22 and D29 of the spec; a held
`smp_restart`, log 7). -/
def Obligations.RestartResetsTheProducerOnly : Prop :=
  ∀ (s : State),
    s.Running → (s.nextStep = .driveResets false true ∨ (s.restartPin = true ∧ ∃ level, s.nextStep = .tick level)) →
    ∃ t, step s = .next t ∧
      t.smpState = .waitFall ∧ t.smpCount = 0 ∧ t.highRun = 0 ∧ t.stuckFault = false ∧
      t.syncState = .seekPreamble 10 ∧ t.acc = 0 ∧ t.pubPending = false ∧ t.pubSlot = s.pubSlot ∧
      t.cell0 = s.cell0 ∧ t.cell1 = s.cell1 ∧ t.latest = s.latest ∧ SameDecoder s t ∧ t.params = s.params ∧
      ∀ i, t.slot i = if s.slot i = .producing then .empty else s.slot i

/-! ### The whole machine -/

/-- Every step keeps a safe state safe: the legal parameters, the eight invariants of 10_state.md R40 and every range. That no step
leads to an illegal target address rests on the model's choice to refuse it as it is driven (log 18). -/
def Obligations.StepKeepsSafe : Prop :=
  ∀ s t : State, s.Safe → step s = .next t → t.Safe

/-- The state after a full reset is safe, for every legal instance; so is the model's own `State.reset` (parameters: log 1). -/
def Obligations.ResetIsSafe : Prop :=
  (∀ p : Params, p.wf = true → (State.resetFor p).Safe) ∧ State.reset.Safe

/-- R233: from a safe state no step faults, and the only step refused is one that drives a bad or a changed target address (log 5).
That an illegal address driven under `rst` is refused at that very step, and not at the next, is the model's choice (log 18). -/
def Obligations.SafeStatesNeverStop : Prop :=
  ∀ s : State, s.Safe →
    (∃ t, step s = .next t) ∨
      ∃ a, s.nextStep = .driveTarget a ∧ a ≠ s.params.targetAddr ∧
        (s.rstPin = true ∧ targetLegal a = false ∧ step s = .refused .targetAddrOutOfRange ∨
          s.rstPin = false ∧ step s = .refused .targetChangedOutsideReset)

/-- R233: with no full reset in force, a step that finds a clause of 10_state.md R40 broken is a fault, as R233 allows
(log 4). -/
def Obligations.BrokenInvariantsAreFaults : Prop :=
  ∀ s : State, s.params.wf = true → s.rstPin = false → assertsRst s.nextStep = false → ¬ s.Inv →
    ∃ n, 1 ≤ n ∧ n ≤ 8 ∧ step s = .fault (.invariantBroken n)

/-- 00_scope.md R8: an instance with a target outside 1..10239, no sample ticks, or too few stuck ticks is refused, by name
(log 5). -/
def Obligations.BadInstancesAreRefused : Prop :=
  ∀ s : State,
    ((s.params.targetAddr.toNat < 1 ∨ 10239 < s.params.targetAddr.toNat) → step s = .refused .targetAddrOutOfRange) ∧
    (1 ≤ s.params.targetAddr.toNat → s.params.targetAddr.toNat ≤ 10239 →
      (s.params.tSampleTicks = 0 → step s = .refused .sampleTicksZero) ∧
      (1 ≤ s.params.tSampleTicks → s.params.tStuckTicks < s.params.tSampleTicks + 2 →
        step s = .refused .stuckTicksTooSmall))

/-- R266: the parameters change only while `rst` is asserted, and then only the target address (log 6), to a legal
value: an illegal one is refused as it is driven, which is the model's choice (log 18). -/
def Obligations.TargetChangesOnlyUnderReset : Prop :=
  ∀ s t : State,
    step s = .next t → t.params ≠ s.params →
    s.rstPin = true ∧ ∃ a, s.nextStep = .driveTarget a ∧ targetLegal a = true ∧
      t.params = { s.params with targetAddr := a } ∧ t.AtReset

/-- R33, R263: the table changes only by a `DEC_APPLY` on an accepted word or by a full reset. -/
def Obligations.TableChangesOnlyByApplyOrReset : Prop :=
  ∀ s t : State,
    step s = .next t → t.fbt ≠ s.fbt →
    (s.rstPin = true ∨ assertsRst s.nextStep = true) ∧ t.fbt = 0 ∨
      s.nextStep = .decApply ∧ s.decPhase = .apply ∧ accepts s.params s.decWord = true

/-- R235, R163: each agent writes only what it owns: a tick keeps the decoder, a decoder step keeps the producer and turns a slot
only from `READY` to `EMPTY`, a host read keeps everything; none touches the environment. -/
def Obligations.AgentsWriteOnlyWhatTheyOwn : Prop :=
  ∀ s t : State,
    step s = .next t → s.rstPin = false →
    ((∃ level, s.nextStep = .tick level) → SameDecoder s t ∧ SameEnvironment s.consume t ∧ t.reply = s.reply) ∧
    (s.nextStep ∈ [.decStart, .decApply, .decEnd] →
      SameProducer s t ∧ SameEnvironment s.consume t ∧ t.reply = s.reply ∧
        ∀ i, t.slot i ≠ s.slot i → s.slot i = .ready ∧ t.slot i = .empty ∧ i = s.latest) ∧
    (((∃ i, s.nextStep = .readButton i) ∨ s.nextStep = .readStatus) →
      SameProducer s t ∧ SameDecoder s t ∧ SameSlots s t ∧ SameEnvironment s.consume t)

/-- A well-formed packet on the line runs its instruction: fed bit by bit to a synchronizer that seeks a preamble, with five more
ones, any packet that carries instruction `i` to this instance ends, after `DEC_START` and `DEC_APPLY`, in what `exec i` does. -/
def Obligations.PacketOnTheLineRunsItsInstruction : Prop :=
  ∀ (s : State) (i : Instr) (pre : Nat),
    s.syncState = .seekPreamble 10 → s.pubPending = false → s.decPhase = .idle → 10 ≤ pre →
    let u := decStart (feedBits (packetFor s.params (encode i) pre ++ ones 5) s)
    u.decPhase = .apply ∧ u.busy = true ∧ u.fbt = s.fbt ∧
      ∃ t, exec i u = .next t ∧ decApply u = .next { t with decPhase := .finish }
end

