-- ==== Sys2Proof/Laws/State.lean ====
section
/-! SUPPORT. One lemma per field of State per update, so that no later proof unfolds a record update. -/

namespace Sys2Proof.Machine

/-! ### State.setCell -/

@[simp] theorem State.setCell_params (s : State) (i : CellIndex) (w : Word) : (s.setCell i w).params = s.params := rfl
@[simp] theorem State.setCell_rstPin (s : State) (i : CellIndex) (w : Word) : (s.setCell i w).rstPin = s.rstPin := rfl
@[simp] theorem State.setCell_restartPin (s : State) (i : CellIndex) (w : Word) : (s.setCell i w).restartPin = s.restartPin := rfl
@[simp] theorem State.setCell_smpState (s : State) (i : CellIndex) (w : Word) : (s.setCell i w).smpState = s.smpState := rfl
@[simp] theorem State.setCell_smpCount (s : State) (i : CellIndex) (w : Word) : (s.setCell i w).smpCount = s.smpCount := rfl
@[simp] theorem State.setCell_highRun (s : State) (i : CellIndex) (w : Word) : (s.setCell i w).highRun = s.highRun := rfl
@[simp] theorem State.setCell_stuckFault (s : State) (i : CellIndex) (w : Word) : (s.setCell i w).stuckFault = s.stuckFault := rfl
@[simp] theorem State.setCell_syncState (s : State) (i : CellIndex) (w : Word) : (s.setCell i w).syncState = s.syncState := rfl
@[simp] theorem State.setCell_acc (s : State) (i : CellIndex) (w : Word) : (s.setCell i w).acc = s.acc := rfl
@[simp] theorem State.setCell_pubPending (s : State) (i : CellIndex) (w : Word) : (s.setCell i w).pubPending = s.pubPending := rfl
@[simp] theorem State.setCell_pubSlot (s : State) (i : CellIndex) (w : Word) : (s.setCell i w).pubSlot = s.pubSlot := rfl
@[simp] theorem State.setCell_cell0 (s : State) (i : CellIndex) (w : Word) : (s.setCell i w).cell0 = if i = 0 then w else s.cell0 := rfl
@[simp] theorem State.setCell_cell1 (s : State) (i : CellIndex) (w : Word) : (s.setCell i w).cell1 = if i = 0 then s.cell1 else w := rfl
@[simp] theorem State.setCell_slot0 (s : State) (i : CellIndex) (w : Word) : (s.setCell i w).slot0 = s.slot0 := rfl
@[simp] theorem State.setCell_slot1 (s : State) (i : CellIndex) (w : Word) : (s.setCell i w).slot1 = s.slot1 := rfl
@[simp] theorem State.setCell_latest (s : State) (i : CellIndex) (w : Word) : (s.setCell i w).latest = s.latest := rfl
@[simp] theorem State.setCell_decPhase (s : State) (i : CellIndex) (w : Word) : (s.setCell i w).decPhase = s.decPhase := rfl
@[simp] theorem State.setCell_decWord (s : State) (i : CellIndex) (w : Word) : (s.setCell i w).decWord = s.decWord := rfl
@[simp] theorem State.setCell_busy (s : State) (i : CellIndex) (w : Word) : (s.setCell i w).busy = s.busy := rfl
@[simp] theorem State.setCell_fbt (s : State) (i : CellIndex) (w : Word) : (s.setCell i w).fbt = s.fbt := rfl
@[simp] theorem State.setCell_reply (s : State) (i : CellIndex) (w : Word) : (s.setCell i w).reply = s.reply := rfl
@[simp] theorem State.setCell_schedule (s : State) (i : CellIndex) (w : Word) : (s.setCell i w).schedule = s.schedule := rfl
@[simp] theorem State.setCell_draws (s : State) (i : CellIndex) (w : Word) : (s.setCell i w).draws = s.draws := rfl

/-! ### State.setSlot -/

@[simp] theorem State.setSlot_params (s : State) (i : CellIndex) (h : Handoff) : (s.setSlot i h).params = s.params := rfl
@[simp] theorem State.setSlot_rstPin (s : State) (i : CellIndex) (h : Handoff) : (s.setSlot i h).rstPin = s.rstPin := rfl
@[simp] theorem State.setSlot_restartPin (s : State) (i : CellIndex) (h : Handoff) : (s.setSlot i h).restartPin = s.restartPin := rfl
@[simp] theorem State.setSlot_smpState (s : State) (i : CellIndex) (h : Handoff) : (s.setSlot i h).smpState = s.smpState := rfl
@[simp] theorem State.setSlot_smpCount (s : State) (i : CellIndex) (h : Handoff) : (s.setSlot i h).smpCount = s.smpCount := rfl
@[simp] theorem State.setSlot_highRun (s : State) (i : CellIndex) (h : Handoff) : (s.setSlot i h).highRun = s.highRun := rfl
@[simp] theorem State.setSlot_stuckFault (s : State) (i : CellIndex) (h : Handoff) : (s.setSlot i h).stuckFault = s.stuckFault := rfl
@[simp] theorem State.setSlot_syncState (s : State) (i : CellIndex) (h : Handoff) : (s.setSlot i h).syncState = s.syncState := rfl
@[simp] theorem State.setSlot_acc (s : State) (i : CellIndex) (h : Handoff) : (s.setSlot i h).acc = s.acc := rfl
@[simp] theorem State.setSlot_pubPending (s : State) (i : CellIndex) (h : Handoff) : (s.setSlot i h).pubPending = s.pubPending := rfl
@[simp] theorem State.setSlot_pubSlot (s : State) (i : CellIndex) (h : Handoff) : (s.setSlot i h).pubSlot = s.pubSlot := rfl
@[simp] theorem State.setSlot_cell0 (s : State) (i : CellIndex) (h : Handoff) : (s.setSlot i h).cell0 = s.cell0 := rfl
@[simp] theorem State.setSlot_cell1 (s : State) (i : CellIndex) (h : Handoff) : (s.setSlot i h).cell1 = s.cell1 := rfl
@[simp] theorem State.setSlot_slot0 (s : State) (i : CellIndex) (h : Handoff) : (s.setSlot i h).slot0 = if i = 0 then h else s.slot0 := rfl
@[simp] theorem State.setSlot_slot1 (s : State) (i : CellIndex) (h : Handoff) : (s.setSlot i h).slot1 = if i = 0 then s.slot1 else h := rfl
@[simp] theorem State.setSlot_latest (s : State) (i : CellIndex) (h : Handoff) : (s.setSlot i h).latest = s.latest := rfl
@[simp] theorem State.setSlot_decPhase (s : State) (i : CellIndex) (h : Handoff) : (s.setSlot i h).decPhase = s.decPhase := rfl
@[simp] theorem State.setSlot_decWord (s : State) (i : CellIndex) (h : Handoff) : (s.setSlot i h).decWord = s.decWord := rfl
@[simp] theorem State.setSlot_busy (s : State) (i : CellIndex) (h : Handoff) : (s.setSlot i h).busy = s.busy := rfl
@[simp] theorem State.setSlot_fbt (s : State) (i : CellIndex) (h : Handoff) : (s.setSlot i h).fbt = s.fbt := rfl
@[simp] theorem State.setSlot_reply (s : State) (i : CellIndex) (h : Handoff) : (s.setSlot i h).reply = s.reply := rfl
@[simp] theorem State.setSlot_schedule (s : State) (i : CellIndex) (h : Handoff) : (s.setSlot i h).schedule = s.schedule := rfl
@[simp] theorem State.setSlot_draws (s : State) (i : CellIndex) (h : Handoff) : (s.setSlot i h).draws = s.draws := rfl

/-! ### State.consume -/

@[simp] theorem State.consume_params (s : State) : s.consume.params = s.params := rfl
@[simp] theorem State.consume_rstPin (s : State) : s.consume.rstPin = s.rstPin := rfl
@[simp] theorem State.consume_restartPin (s : State) : s.consume.restartPin = s.restartPin := rfl
@[simp] theorem State.consume_smpState (s : State) : s.consume.smpState = s.smpState := rfl
@[simp] theorem State.consume_smpCount (s : State) : s.consume.smpCount = s.smpCount := rfl
@[simp] theorem State.consume_highRun (s : State) : s.consume.highRun = s.highRun := rfl
@[simp] theorem State.consume_stuckFault (s : State) : s.consume.stuckFault = s.stuckFault := rfl
@[simp] theorem State.consume_syncState (s : State) : s.consume.syncState = s.syncState := rfl
@[simp] theorem State.consume_acc (s : State) : s.consume.acc = s.acc := rfl
@[simp] theorem State.consume_pubPending (s : State) : s.consume.pubPending = s.pubPending := rfl
@[simp] theorem State.consume_pubSlot (s : State) : s.consume.pubSlot = s.pubSlot := rfl
@[simp] theorem State.consume_cell0 (s : State) : s.consume.cell0 = s.cell0 := rfl
@[simp] theorem State.consume_cell1 (s : State) : s.consume.cell1 = s.cell1 := rfl
@[simp] theorem State.consume_slot0 (s : State) : s.consume.slot0 = s.slot0 := rfl
@[simp] theorem State.consume_slot1 (s : State) : s.consume.slot1 = s.slot1 := rfl
@[simp] theorem State.consume_latest (s : State) : s.consume.latest = s.latest := rfl
@[simp] theorem State.consume_decPhase (s : State) : s.consume.decPhase = s.decPhase := rfl
@[simp] theorem State.consume_decWord (s : State) : s.consume.decWord = s.decWord := rfl
@[simp] theorem State.consume_busy (s : State) : s.consume.busy = s.busy := rfl
@[simp] theorem State.consume_fbt (s : State) : s.consume.fbt = s.fbt := rfl
@[simp] theorem State.consume_reply (s : State) : s.consume.reply = s.reply := rfl
@[simp] theorem State.consume_schedule (s : State) : s.consume.schedule = s.schedule.tail := rfl
@[simp] theorem State.consume_draws (s : State) : s.consume.draws = if s.schedule.isEmpty then s.draws + 1 else s.draws := rfl

/-! ### raiseStuckHighFault -/

@[simp] theorem raiseStuckHighFault_params (s : State) : (raiseStuckHighFault s).params = s.params := rfl
@[simp] theorem raiseStuckHighFault_rstPin (s : State) : (raiseStuckHighFault s).rstPin = s.rstPin := rfl
@[simp] theorem raiseStuckHighFault_restartPin (s : State) : (raiseStuckHighFault s).restartPin = s.restartPin := rfl
@[simp] theorem raiseStuckHighFault_smpState (s : State) : (raiseStuckHighFault s).smpState = .halted := rfl
@[simp] theorem raiseStuckHighFault_smpCount (s : State) : (raiseStuckHighFault s).smpCount = s.smpCount := rfl
@[simp] theorem raiseStuckHighFault_highRun (s : State) : (raiseStuckHighFault s).highRun = s.highRun := rfl
@[simp] theorem raiseStuckHighFault_stuckFault (s : State) : (raiseStuckHighFault s).stuckFault = true := rfl
@[simp] theorem raiseStuckHighFault_syncState (s : State) : (raiseStuckHighFault s).syncState = s.syncState := rfl
@[simp] theorem raiseStuckHighFault_acc (s : State) : (raiseStuckHighFault s).acc = s.acc := rfl
@[simp] theorem raiseStuckHighFault_pubPending (s : State) : (raiseStuckHighFault s).pubPending = s.pubPending := rfl
@[simp] theorem raiseStuckHighFault_pubSlot (s : State) : (raiseStuckHighFault s).pubSlot = s.pubSlot := rfl
@[simp] theorem raiseStuckHighFault_cell0 (s : State) : (raiseStuckHighFault s).cell0 = s.cell0 := rfl
@[simp] theorem raiseStuckHighFault_cell1 (s : State) : (raiseStuckHighFault s).cell1 = s.cell1 := rfl
@[simp] theorem raiseStuckHighFault_slot0 (s : State) : (raiseStuckHighFault s).slot0 = s.slot0 := rfl
@[simp] theorem raiseStuckHighFault_slot1 (s : State) : (raiseStuckHighFault s).slot1 = s.slot1 := rfl
@[simp] theorem raiseStuckHighFault_latest (s : State) : (raiseStuckHighFault s).latest = s.latest := rfl
@[simp] theorem raiseStuckHighFault_decPhase (s : State) : (raiseStuckHighFault s).decPhase = s.decPhase := rfl
@[simp] theorem raiseStuckHighFault_decWord (s : State) : (raiseStuckHighFault s).decWord = s.decWord := rfl
@[simp] theorem raiseStuckHighFault_busy (s : State) : (raiseStuckHighFault s).busy = s.busy := rfl
@[simp] theorem raiseStuckHighFault_fbt (s : State) : (raiseStuckHighFault s).fbt = s.fbt := rfl
@[simp] theorem raiseStuckHighFault_reply (s : State) : (raiseStuckHighFault s).reply = s.reply := rfl
@[simp] theorem raiseStuckHighFault_schedule (s : State) : (raiseStuckHighFault s).schedule = s.schedule := rfl
@[simp] theorem raiseStuckHighFault_draws (s : State) : (raiseStuckHighFault s).draws = s.draws := rfl

/-! ### fullReset -/

@[simp] theorem fullReset_params (s : State) : (fullReset s).params = s.params := rfl
@[simp] theorem fullReset_rstPin (s : State) : (fullReset s).rstPin = s.rstPin := rfl
@[simp] theorem fullReset_restartPin (s : State) : (fullReset s).restartPin = s.restartPin := rfl
@[simp] theorem fullReset_smpState (s : State) : (fullReset s).smpState = .waitFall := rfl
@[simp] theorem fullReset_smpCount (s : State) : (fullReset s).smpCount = 0 := rfl
@[simp] theorem fullReset_highRun (s : State) : (fullReset s).highRun = 0 := rfl
@[simp] theorem fullReset_stuckFault (s : State) : (fullReset s).stuckFault = false := rfl
@[simp] theorem fullReset_syncState (s : State) : (fullReset s).syncState = .seekPreamble 10 := rfl
@[simp] theorem fullReset_acc (s : State) : (fullReset s).acc = 0 := rfl
@[simp] theorem fullReset_pubPending (s : State) : (fullReset s).pubPending = false := rfl
@[simp] theorem fullReset_pubSlot (s : State) : (fullReset s).pubSlot = 0 := rfl
@[simp] theorem fullReset_cell0 (s : State) : (fullReset s).cell0 = 0 := rfl
@[simp] theorem fullReset_cell1 (s : State) : (fullReset s).cell1 = 0 := rfl
@[simp] theorem fullReset_slot0 (s : State) : (fullReset s).slot0 = .empty := rfl
@[simp] theorem fullReset_slot1 (s : State) : (fullReset s).slot1 = .empty := rfl
@[simp] theorem fullReset_latest (s : State) : (fullReset s).latest = 0 := rfl
@[simp] theorem fullReset_decPhase (s : State) : (fullReset s).decPhase = .idle := rfl
@[simp] theorem fullReset_decWord (s : State) : (fullReset s).decWord = 0 := rfl
@[simp] theorem fullReset_busy (s : State) : (fullReset s).busy = false := rfl
@[simp] theorem fullReset_fbt (s : State) : (fullReset s).fbt = 0 := rfl
@[simp] theorem fullReset_reply (s : State) : (fullReset s).reply = .none := rfl
@[simp] theorem fullReset_schedule (s : State) : (fullReset s).schedule = s.schedule := rfl
@[simp] theorem fullReset_draws (s : State) : (fullReset s).draws = s.draws := rfl

/-! ### setPins -/

@[simp] theorem setPins_params (rst rs : Bool) (s : State) : (setPins rst rs s).params = s.params := rfl
@[simp] theorem setPins_rstPin (rst rs : Bool) (s : State) : (setPins rst rs s).rstPin = rst := rfl
@[simp] theorem setPins_restartPin (rst rs : Bool) (s : State) : (setPins rst rs s).restartPin = rs := rfl
@[simp] theorem setPins_smpState (rst rs : Bool) (s : State) : (setPins rst rs s).smpState = s.smpState := rfl
@[simp] theorem setPins_smpCount (rst rs : Bool) (s : State) : (setPins rst rs s).smpCount = s.smpCount := rfl
@[simp] theorem setPins_highRun (rst rs : Bool) (s : State) : (setPins rst rs s).highRun = s.highRun := rfl
@[simp] theorem setPins_stuckFault (rst rs : Bool) (s : State) : (setPins rst rs s).stuckFault = s.stuckFault := rfl
@[simp] theorem setPins_syncState (rst rs : Bool) (s : State) : (setPins rst rs s).syncState = s.syncState := rfl
@[simp] theorem setPins_acc (rst rs : Bool) (s : State) : (setPins rst rs s).acc = s.acc := rfl
@[simp] theorem setPins_pubPending (rst rs : Bool) (s : State) : (setPins rst rs s).pubPending = s.pubPending := rfl
@[simp] theorem setPins_pubSlot (rst rs : Bool) (s : State) : (setPins rst rs s).pubSlot = s.pubSlot := rfl
@[simp] theorem setPins_cell0 (rst rs : Bool) (s : State) : (setPins rst rs s).cell0 = s.cell0 := rfl
@[simp] theorem setPins_cell1 (rst rs : Bool) (s : State) : (setPins rst rs s).cell1 = s.cell1 := rfl
@[simp] theorem setPins_slot0 (rst rs : Bool) (s : State) : (setPins rst rs s).slot0 = s.slot0 := rfl
@[simp] theorem setPins_slot1 (rst rs : Bool) (s : State) : (setPins rst rs s).slot1 = s.slot1 := rfl
@[simp] theorem setPins_latest (rst rs : Bool) (s : State) : (setPins rst rs s).latest = s.latest := rfl
@[simp] theorem setPins_decPhase (rst rs : Bool) (s : State) : (setPins rst rs s).decPhase = s.decPhase := rfl
@[simp] theorem setPins_decWord (rst rs : Bool) (s : State) : (setPins rst rs s).decWord = s.decWord := rfl
@[simp] theorem setPins_busy (rst rs : Bool) (s : State) : (setPins rst rs s).busy = s.busy := rfl
@[simp] theorem setPins_fbt (rst rs : Bool) (s : State) : (setPins rst rs s).fbt = s.fbt := rfl
@[simp] theorem setPins_reply (rst rs : Bool) (s : State) : (setPins rst rs s).reply = s.reply := rfl
@[simp] theorem setPins_schedule (rst rs : Bool) (s : State) : (setPins rst rs s).schedule = s.schedule := rfl
@[simp] theorem setPins_draws (rst rs : Bool) (s : State) : (setPins rst rs s).draws = s.draws := rfl

/-! ### setTarget -/

@[simp] theorem setTarget_params (a : Address) (s : State) : (setTarget a s).params = { s.params with targetAddr := a } := rfl
@[simp] theorem setTarget_rstPin (a : Address) (s : State) : (setTarget a s).rstPin = s.rstPin := rfl
@[simp] theorem setTarget_restartPin (a : Address) (s : State) : (setTarget a s).restartPin = s.restartPin := rfl
@[simp] theorem setTarget_smpState (a : Address) (s : State) : (setTarget a s).smpState = s.smpState := rfl
@[simp] theorem setTarget_smpCount (a : Address) (s : State) : (setTarget a s).smpCount = s.smpCount := rfl
@[simp] theorem setTarget_highRun (a : Address) (s : State) : (setTarget a s).highRun = s.highRun := rfl
@[simp] theorem setTarget_stuckFault (a : Address) (s : State) : (setTarget a s).stuckFault = s.stuckFault := rfl
@[simp] theorem setTarget_syncState (a : Address) (s : State) : (setTarget a s).syncState = s.syncState := rfl
@[simp] theorem setTarget_acc (a : Address) (s : State) : (setTarget a s).acc = s.acc := rfl
@[simp] theorem setTarget_pubPending (a : Address) (s : State) : (setTarget a s).pubPending = s.pubPending := rfl
@[simp] theorem setTarget_pubSlot (a : Address) (s : State) : (setTarget a s).pubSlot = s.pubSlot := rfl
@[simp] theorem setTarget_cell0 (a : Address) (s : State) : (setTarget a s).cell0 = s.cell0 := rfl
@[simp] theorem setTarget_cell1 (a : Address) (s : State) : (setTarget a s).cell1 = s.cell1 := rfl
@[simp] theorem setTarget_slot0 (a : Address) (s : State) : (setTarget a s).slot0 = s.slot0 := rfl
@[simp] theorem setTarget_slot1 (a : Address) (s : State) : (setTarget a s).slot1 = s.slot1 := rfl
@[simp] theorem setTarget_latest (a : Address) (s : State) : (setTarget a s).latest = s.latest := rfl
@[simp] theorem setTarget_decPhase (a : Address) (s : State) : (setTarget a s).decPhase = s.decPhase := rfl
@[simp] theorem setTarget_decWord (a : Address) (s : State) : (setTarget a s).decWord = s.decWord := rfl
@[simp] theorem setTarget_busy (a : Address) (s : State) : (setTarget a s).busy = s.busy := rfl
@[simp] theorem setTarget_fbt (a : Address) (s : State) : (setTarget a s).fbt = s.fbt := rfl
@[simp] theorem setTarget_reply (a : Address) (s : State) : (setTarget a s).reply = s.reply := rfl
@[simp] theorem setTarget_schedule (a : Address) (s : State) : (setTarget a s).schedule = s.schedule := rfl
@[simp] theorem setTarget_draws (a : Address) (s : State) : (setTarget a s).draws = s.draws := rfl

/-! ### countHigh -/

@[simp] theorem countHigh_params (level : Bool) (s : State) : (countHigh level s).params = s.params := rfl
@[simp] theorem countHigh_rstPin (level : Bool) (s : State) : (countHigh level s).rstPin = s.rstPin := rfl
@[simp] theorem countHigh_restartPin (level : Bool) (s : State) : (countHigh level s).restartPin = s.restartPin := rfl
@[simp] theorem countHigh_smpState (level : Bool) (s : State) : (countHigh level s).smpState = s.smpState := rfl
@[simp] theorem countHigh_smpCount (level : Bool) (s : State) : (countHigh level s).smpCount = s.smpCount := rfl
@[simp] theorem countHigh_highRun (level : Bool) (s : State) : (countHigh level s).highRun = if level then min (s.highRun + 1) s.params.tStuckTicks else 0 := rfl
@[simp] theorem countHigh_stuckFault (level : Bool) (s : State) : (countHigh level s).stuckFault = s.stuckFault := rfl
@[simp] theorem countHigh_syncState (level : Bool) (s : State) : (countHigh level s).syncState = s.syncState := rfl
@[simp] theorem countHigh_acc (level : Bool) (s : State) : (countHigh level s).acc = s.acc := rfl
@[simp] theorem countHigh_pubPending (level : Bool) (s : State) : (countHigh level s).pubPending = s.pubPending := rfl
@[simp] theorem countHigh_pubSlot (level : Bool) (s : State) : (countHigh level s).pubSlot = s.pubSlot := rfl
@[simp] theorem countHigh_cell0 (level : Bool) (s : State) : (countHigh level s).cell0 = s.cell0 := rfl
@[simp] theorem countHigh_cell1 (level : Bool) (s : State) : (countHigh level s).cell1 = s.cell1 := rfl
@[simp] theorem countHigh_slot0 (level : Bool) (s : State) : (countHigh level s).slot0 = s.slot0 := rfl
@[simp] theorem countHigh_slot1 (level : Bool) (s : State) : (countHigh level s).slot1 = s.slot1 := rfl
@[simp] theorem countHigh_latest (level : Bool) (s : State) : (countHigh level s).latest = s.latest := rfl
@[simp] theorem countHigh_decPhase (level : Bool) (s : State) : (countHigh level s).decPhase = s.decPhase := rfl
@[simp] theorem countHigh_decWord (level : Bool) (s : State) : (countHigh level s).decWord = s.decWord := rfl
@[simp] theorem countHigh_busy (level : Bool) (s : State) : (countHigh level s).busy = s.busy := rfl
@[simp] theorem countHigh_fbt (level : Bool) (s : State) : (countHigh level s).fbt = s.fbt := rfl
@[simp] theorem countHigh_reply (level : Bool) (s : State) : (countHigh level s).reply = s.reply := rfl
@[simp] theorem countHigh_schedule (level : Bool) (s : State) : (countHigh level s).schedule = s.schedule := rfl
@[simp] theorem countHigh_draws (level : Bool) (s : State) : (countHigh level s).draws = s.draws := rfl

/-! ### beginDecode -/

@[simp] theorem beginDecode_params (w : Word) (s : State) : (beginDecode w s).params = s.params := rfl
@[simp] theorem beginDecode_rstPin (w : Word) (s : State) : (beginDecode w s).rstPin = s.rstPin := rfl
@[simp] theorem beginDecode_restartPin (w : Word) (s : State) : (beginDecode w s).restartPin = s.restartPin := rfl
@[simp] theorem beginDecode_smpState (w : Word) (s : State) : (beginDecode w s).smpState = s.smpState := rfl
@[simp] theorem beginDecode_smpCount (w : Word) (s : State) : (beginDecode w s).smpCount = s.smpCount := rfl
@[simp] theorem beginDecode_highRun (w : Word) (s : State) : (beginDecode w s).highRun = s.highRun := rfl
@[simp] theorem beginDecode_stuckFault (w : Word) (s : State) : (beginDecode w s).stuckFault = s.stuckFault := rfl
@[simp] theorem beginDecode_syncState (w : Word) (s : State) : (beginDecode w s).syncState = s.syncState := rfl
@[simp] theorem beginDecode_acc (w : Word) (s : State) : (beginDecode w s).acc = s.acc := rfl
@[simp] theorem beginDecode_pubPending (w : Word) (s : State) : (beginDecode w s).pubPending = s.pubPending := rfl
@[simp] theorem beginDecode_pubSlot (w : Word) (s : State) : (beginDecode w s).pubSlot = s.pubSlot := rfl
@[simp] theorem beginDecode_cell0 (w : Word) (s : State) : (beginDecode w s).cell0 = s.cell0 := rfl
@[simp] theorem beginDecode_cell1 (w : Word) (s : State) : (beginDecode w s).cell1 = s.cell1 := rfl
@[simp] theorem beginDecode_slot0 (w : Word) (s : State) : (beginDecode w s).slot0 = s.slot0 := rfl
@[simp] theorem beginDecode_slot1 (w : Word) (s : State) : (beginDecode w s).slot1 = s.slot1 := rfl
@[simp] theorem beginDecode_latest (w : Word) (s : State) : (beginDecode w s).latest = s.latest := rfl
@[simp] theorem beginDecode_decPhase (w : Word) (s : State) : (beginDecode w s).decPhase = .apply := rfl
@[simp] theorem beginDecode_decWord (w : Word) (s : State) : (beginDecode w s).decWord = w := rfl
@[simp] theorem beginDecode_busy (w : Word) (s : State) : (beginDecode w s).busy = true := rfl
@[simp] theorem beginDecode_fbt (w : Word) (s : State) : (beginDecode w s).fbt = s.fbt := rfl
@[simp] theorem beginDecode_reply (w : Word) (s : State) : (beginDecode w s).reply = s.reply := rfl
@[simp] theorem beginDecode_schedule (w : Word) (s : State) : (beginDecode w s).schedule = s.schedule := rfl
@[simp] theorem beginDecode_draws (w : Word) (s : State) : (beginDecode w s).draws = s.draws := rfl

/-! ### finishApply -/

@[simp] theorem finishApply_params (s : State) : (finishApply s).params = s.params := rfl
@[simp] theorem finishApply_rstPin (s : State) : (finishApply s).rstPin = s.rstPin := rfl
@[simp] theorem finishApply_restartPin (s : State) : (finishApply s).restartPin = s.restartPin := rfl
@[simp] theorem finishApply_smpState (s : State) : (finishApply s).smpState = s.smpState := rfl
@[simp] theorem finishApply_smpCount (s : State) : (finishApply s).smpCount = s.smpCount := rfl
@[simp] theorem finishApply_highRun (s : State) : (finishApply s).highRun = s.highRun := rfl
@[simp] theorem finishApply_stuckFault (s : State) : (finishApply s).stuckFault = s.stuckFault := rfl
@[simp] theorem finishApply_syncState (s : State) : (finishApply s).syncState = s.syncState := rfl
@[simp] theorem finishApply_acc (s : State) : (finishApply s).acc = s.acc := rfl
@[simp] theorem finishApply_pubPending (s : State) : (finishApply s).pubPending = s.pubPending := rfl
@[simp] theorem finishApply_pubSlot (s : State) : (finishApply s).pubSlot = s.pubSlot := rfl
@[simp] theorem finishApply_cell0 (s : State) : (finishApply s).cell0 = s.cell0 := rfl
@[simp] theorem finishApply_cell1 (s : State) : (finishApply s).cell1 = s.cell1 := rfl
@[simp] theorem finishApply_slot0 (s : State) : (finishApply s).slot0 = s.slot0 := rfl
@[simp] theorem finishApply_slot1 (s : State) : (finishApply s).slot1 = s.slot1 := rfl
@[simp] theorem finishApply_latest (s : State) : (finishApply s).latest = s.latest := rfl
@[simp] theorem finishApply_decPhase (s : State) : (finishApply s).decPhase = .finish := rfl
@[simp] theorem finishApply_decWord (s : State) : (finishApply s).decWord = s.decWord := rfl
@[simp] theorem finishApply_busy (s : State) : (finishApply s).busy = s.busy := rfl
@[simp] theorem finishApply_fbt (s : State) : (finishApply s).fbt = s.fbt := rfl
@[simp] theorem finishApply_reply (s : State) : (finishApply s).reply = s.reply := rfl
@[simp] theorem finishApply_schedule (s : State) : (finishApply s).schedule = s.schedule := rfl
@[simp] theorem finishApply_draws (s : State) : (finishApply s).draws = s.draws := rfl

/-! ### readButtonStep -/

@[simp] theorem readButtonStep_params (i : BitVec 4) (s : State) : (readButtonStep i s).params = s.params := rfl
@[simp] theorem readButtonStep_rstPin (i : BitVec 4) (s : State) : (readButtonStep i s).rstPin = s.rstPin := rfl
@[simp] theorem readButtonStep_restartPin (i : BitVec 4) (s : State) : (readButtonStep i s).restartPin = s.restartPin := rfl
@[simp] theorem readButtonStep_smpState (i : BitVec 4) (s : State) : (readButtonStep i s).smpState = s.smpState := rfl
@[simp] theorem readButtonStep_smpCount (i : BitVec 4) (s : State) : (readButtonStep i s).smpCount = s.smpCount := rfl
@[simp] theorem readButtonStep_highRun (i : BitVec 4) (s : State) : (readButtonStep i s).highRun = s.highRun := rfl
@[simp] theorem readButtonStep_stuckFault (i : BitVec 4) (s : State) : (readButtonStep i s).stuckFault = s.stuckFault := rfl
@[simp] theorem readButtonStep_syncState (i : BitVec 4) (s : State) : (readButtonStep i s).syncState = s.syncState := rfl
@[simp] theorem readButtonStep_acc (i : BitVec 4) (s : State) : (readButtonStep i s).acc = s.acc := rfl
@[simp] theorem readButtonStep_pubPending (i : BitVec 4) (s : State) : (readButtonStep i s).pubPending = s.pubPending := rfl
@[simp] theorem readButtonStep_pubSlot (i : BitVec 4) (s : State) : (readButtonStep i s).pubSlot = s.pubSlot := rfl
@[simp] theorem readButtonStep_cell0 (i : BitVec 4) (s : State) : (readButtonStep i s).cell0 = s.cell0 := rfl
@[simp] theorem readButtonStep_cell1 (i : BitVec 4) (s : State) : (readButtonStep i s).cell1 = s.cell1 := rfl
@[simp] theorem readButtonStep_slot0 (i : BitVec 4) (s : State) : (readButtonStep i s).slot0 = s.slot0 := rfl
@[simp] theorem readButtonStep_slot1 (i : BitVec 4) (s : State) : (readButtonStep i s).slot1 = s.slot1 := rfl
@[simp] theorem readButtonStep_latest (i : BitVec 4) (s : State) : (readButtonStep i s).latest = s.latest := rfl
@[simp] theorem readButtonStep_decPhase (i : BitVec 4) (s : State) : (readButtonStep i s).decPhase = s.decPhase := rfl
@[simp] theorem readButtonStep_decWord (i : BitVec 4) (s : State) : (readButtonStep i s).decWord = s.decWord := rfl
@[simp] theorem readButtonStep_busy (i : BitVec 4) (s : State) : (readButtonStep i s).busy = s.busy := rfl
@[simp] theorem readButtonStep_fbt (i : BitVec 4) (s : State) : (readButtonStep i s).fbt = s.fbt := rfl
@[simp] theorem readButtonStep_reply (i : BitVec 4) (s : State) : (readButtonStep i s).reply = .button (readButton i s) := rfl
@[simp] theorem readButtonStep_schedule (i : BitVec 4) (s : State) : (readButtonStep i s).schedule = s.schedule := rfl
@[simp] theorem readButtonStep_draws (i : BitVec 4) (s : State) : (readButtonStep i s).draws = s.draws := rfl

/-! ### readStatusStep -/

@[simp] theorem readStatusStep_params (s : State) : (readStatusStep s).params = s.params := rfl
@[simp] theorem readStatusStep_rstPin (s : State) : (readStatusStep s).rstPin = s.rstPin := rfl
@[simp] theorem readStatusStep_restartPin (s : State) : (readStatusStep s).restartPin = s.restartPin := rfl
@[simp] theorem readStatusStep_smpState (s : State) : (readStatusStep s).smpState = s.smpState := rfl
@[simp] theorem readStatusStep_smpCount (s : State) : (readStatusStep s).smpCount = s.smpCount := rfl
@[simp] theorem readStatusStep_highRun (s : State) : (readStatusStep s).highRun = s.highRun := rfl
@[simp] theorem readStatusStep_stuckFault (s : State) : (readStatusStep s).stuckFault = s.stuckFault := rfl
@[simp] theorem readStatusStep_syncState (s : State) : (readStatusStep s).syncState = s.syncState := rfl
@[simp] theorem readStatusStep_acc (s : State) : (readStatusStep s).acc = s.acc := rfl
@[simp] theorem readStatusStep_pubPending (s : State) : (readStatusStep s).pubPending = s.pubPending := rfl
@[simp] theorem readStatusStep_pubSlot (s : State) : (readStatusStep s).pubSlot = s.pubSlot := rfl
@[simp] theorem readStatusStep_cell0 (s : State) : (readStatusStep s).cell0 = s.cell0 := rfl
@[simp] theorem readStatusStep_cell1 (s : State) : (readStatusStep s).cell1 = s.cell1 := rfl
@[simp] theorem readStatusStep_slot0 (s : State) : (readStatusStep s).slot0 = s.slot0 := rfl
@[simp] theorem readStatusStep_slot1 (s : State) : (readStatusStep s).slot1 = s.slot1 := rfl
@[simp] theorem readStatusStep_latest (s : State) : (readStatusStep s).latest = s.latest := rfl
@[simp] theorem readStatusStep_decPhase (s : State) : (readStatusStep s).decPhase = s.decPhase := rfl
@[simp] theorem readStatusStep_decWord (s : State) : (readStatusStep s).decWord = s.decWord := rfl
@[simp] theorem readStatusStep_busy (s : State) : (readStatusStep s).busy = s.busy := rfl
@[simp] theorem readStatusStep_fbt (s : State) : (readStatusStep s).fbt = s.fbt := rfl
@[simp] theorem readStatusStep_reply (s : State) : (readStatusStep s).reply = .status (readStatus s) := rfl
@[simp] theorem readStatusStep_schedule (s : State) : (readStatusStep s).schedule = s.schedule := rfl
@[simp] theorem readStatusStep_draws (s : State) : (readStatusStep s).draws = s.draws := rfl

/-! ### setSync -/

@[simp] theorem setSync_params (x : SyncState) (s : State) : (setSync x s).params = s.params := rfl
@[simp] theorem setSync_rstPin (x : SyncState) (s : State) : (setSync x s).rstPin = s.rstPin := rfl
@[simp] theorem setSync_restartPin (x : SyncState) (s : State) : (setSync x s).restartPin = s.restartPin := rfl
@[simp] theorem setSync_smpState (x : SyncState) (s : State) : (setSync x s).smpState = s.smpState := rfl
@[simp] theorem setSync_smpCount (x : SyncState) (s : State) : (setSync x s).smpCount = s.smpCount := rfl
@[simp] theorem setSync_highRun (x : SyncState) (s : State) : (setSync x s).highRun = s.highRun := rfl
@[simp] theorem setSync_stuckFault (x : SyncState) (s : State) : (setSync x s).stuckFault = s.stuckFault := rfl
@[simp] theorem setSync_syncState (x : SyncState) (s : State) : (setSync x s).syncState = x := rfl
@[simp] theorem setSync_acc (x : SyncState) (s : State) : (setSync x s).acc = s.acc := rfl
@[simp] theorem setSync_pubPending (x : SyncState) (s : State) : (setSync x s).pubPending = s.pubPending := rfl
@[simp] theorem setSync_pubSlot (x : SyncState) (s : State) : (setSync x s).pubSlot = s.pubSlot := rfl
@[simp] theorem setSync_cell0 (x : SyncState) (s : State) : (setSync x s).cell0 = s.cell0 := rfl
@[simp] theorem setSync_cell1 (x : SyncState) (s : State) : (setSync x s).cell1 = s.cell1 := rfl
@[simp] theorem setSync_slot0 (x : SyncState) (s : State) : (setSync x s).slot0 = s.slot0 := rfl
@[simp] theorem setSync_slot1 (x : SyncState) (s : State) : (setSync x s).slot1 = s.slot1 := rfl
@[simp] theorem setSync_latest (x : SyncState) (s : State) : (setSync x s).latest = s.latest := rfl
@[simp] theorem setSync_decPhase (x : SyncState) (s : State) : (setSync x s).decPhase = s.decPhase := rfl
@[simp] theorem setSync_decWord (x : SyncState) (s : State) : (setSync x s).decWord = s.decWord := rfl
@[simp] theorem setSync_busy (x : SyncState) (s : State) : (setSync x s).busy = s.busy := rfl
@[simp] theorem setSync_fbt (x : SyncState) (s : State) : (setSync x s).fbt = s.fbt := rfl
@[simp] theorem setSync_reply (x : SyncState) (s : State) : (setSync x s).reply = s.reply := rfl
@[simp] theorem setSync_schedule (x : SyncState) (s : State) : (setSync x s).schedule = s.schedule := rfl
@[simp] theorem setSync_draws (x : SyncState) (s : State) : (setSync x s).draws = s.draws := rfl

/-! ### setAcc -/

@[simp] theorem setAcc_params (a : Word) (s : State) : (setAcc a s).params = s.params := rfl
@[simp] theorem setAcc_rstPin (a : Word) (s : State) : (setAcc a s).rstPin = s.rstPin := rfl
@[simp] theorem setAcc_restartPin (a : Word) (s : State) : (setAcc a s).restartPin = s.restartPin := rfl
@[simp] theorem setAcc_smpState (a : Word) (s : State) : (setAcc a s).smpState = s.smpState := rfl
@[simp] theorem setAcc_smpCount (a : Word) (s : State) : (setAcc a s).smpCount = s.smpCount := rfl
@[simp] theorem setAcc_highRun (a : Word) (s : State) : (setAcc a s).highRun = s.highRun := rfl
@[simp] theorem setAcc_stuckFault (a : Word) (s : State) : (setAcc a s).stuckFault = s.stuckFault := rfl
@[simp] theorem setAcc_syncState (a : Word) (s : State) : (setAcc a s).syncState = s.syncState := rfl
@[simp] theorem setAcc_acc (a : Word) (s : State) : (setAcc a s).acc = a := rfl
@[simp] theorem setAcc_pubPending (a : Word) (s : State) : (setAcc a s).pubPending = s.pubPending := rfl
@[simp] theorem setAcc_pubSlot (a : Word) (s : State) : (setAcc a s).pubSlot = s.pubSlot := rfl
@[simp] theorem setAcc_cell0 (a : Word) (s : State) : (setAcc a s).cell0 = s.cell0 := rfl
@[simp] theorem setAcc_cell1 (a : Word) (s : State) : (setAcc a s).cell1 = s.cell1 := rfl
@[simp] theorem setAcc_slot0 (a : Word) (s : State) : (setAcc a s).slot0 = s.slot0 := rfl
@[simp] theorem setAcc_slot1 (a : Word) (s : State) : (setAcc a s).slot1 = s.slot1 := rfl
@[simp] theorem setAcc_latest (a : Word) (s : State) : (setAcc a s).latest = s.latest := rfl
@[simp] theorem setAcc_decPhase (a : Word) (s : State) : (setAcc a s).decPhase = s.decPhase := rfl
@[simp] theorem setAcc_decWord (a : Word) (s : State) : (setAcc a s).decWord = s.decWord := rfl
@[simp] theorem setAcc_busy (a : Word) (s : State) : (setAcc a s).busy = s.busy := rfl
@[simp] theorem setAcc_fbt (a : Word) (s : State) : (setAcc a s).fbt = s.fbt := rfl
@[simp] theorem setAcc_reply (a : Word) (s : State) : (setAcc a s).reply = s.reply := rfl
@[simp] theorem setAcc_schedule (a : Word) (s : State) : (setAcc a s).schedule = s.schedule := rfl
@[simp] theorem setAcc_draws (a : Word) (s : State) : (setAcc a s).draws = s.draws := rfl

end Sys2Proof.Machine
end

