-- ==== Sys2Proof/Laws/Buffer.lean ====
section
/-! SUPPORT. The two cells and their slots: what a read gives after a write, and what each buffer operation does, once. -/

namespace Sys2Proof.Machine

theorem cellIndex_cases (i : CellIndex) : i = 0 ∨ i = 1 := by
  fin_cases i <;> simp

@[simp] theorem otherCell_zero : otherCell 0 = 1 := rfl
@[simp] theorem otherCell_one : otherCell 1 = 0 := rfl

@[simp] theorem otherCell_otherCell (i : CellIndex) : otherCell (otherCell i) = i := by
  rcases cellIndex_cases i with rfl | rfl <;> rfl

@[simp] theorem otherCell_ne (i : CellIndex) : otherCell i ≠ i := by
  rcases cellIndex_cases i with rfl | rfl <;> decide

@[simp] theorem ne_otherCell (i : CellIndex) : i ≠ otherCell i := (otherCell_ne i).symm

theorem eq_otherCell_of_ne {i j : CellIndex} (h : i ≠ j) : i = otherCell j := by
  rcases cellIndex_cases i with rfl | rfl <;> rcases cellIndex_cases j with rfl | rfl <;> simp_all

/-- A cell read after a cell write: the written word in that cell, the old one in the other (20_memory.md R65). -/
theorem cell_setCell (s : State) (i j : CellIndex) (w : Word) :
    (s.setCell i w).cell j = if j = i then w else s.cell j := by
  rcases cellIndex_cases i with rfl | rfl <;> rcases cellIndex_cases j with rfl | rfl <;> rfl

/-- A slot read after a slot write. -/
theorem slot_setSlot (s : State) (i j : CellIndex) (h : Handoff) :
    (s.setSlot i h).slot j = if j = i then h else s.slot j := by
  rcases cellIndex_cases i with rfl | rfl <;> rcases cellIndex_cases j with rfl | rfl <;> rfl

@[simp] theorem cell_setSlot (s : State) (i j : CellIndex) (h : Handoff) : (s.setSlot i h).cell j = s.cell j := rfl
@[simp] theorem slot_setCell (s : State) (i j : CellIndex) (w : Word) : (s.setCell i w).slot j = s.slot j := rfl

/-- `PUBLISH_BEGIN`: the slots after it (42_packet_buffer.md R160). -/
theorem publishBegin_slot (w : Word) (s : State) (j : CellIndex) :
    (publishBegin w s).slot j = if j = otherCell s.latest then .producing else s.slot j :=
  slot_setSlot (s.setCell (otherCell s.latest) w) (otherCell s.latest) j .producing

/-- `PUBLISH_BEGIN`: the cells after it (42_packet_buffer.md R160). -/
theorem publishBegin_cell (w : Word) (s : State) (j : CellIndex) :
    (publishBegin w s).cell j = if j = otherCell s.latest then w else s.cell j :=
  cell_setCell s (otherCell s.latest) j w

@[simp] theorem publishBegin_latest (w : Word) (s : State) : (publishBegin w s).latest = s.latest := rfl
@[simp] theorem publishBegin_pubPending (w : Word) (s : State) : (publishBegin w s).pubPending = true := rfl
@[simp] theorem publishBegin_pubSlot (w : Word) (s : State) : (publishBegin w s).pubSlot = otherCell s.latest := rfl

/-- Dropping a superseded word: the slots after it (42_packet_buffer.md R161). -/
theorem dropIfReady_slot (i j : CellIndex) (s : State) :
    (dropIfReady i s).slot j = if j = i ∧ s.slot i = .ready then .empty else s.slot j := by
  unfold dropIfReady
  by_cases h : s.slot i = .ready <;> simp [h, slot_setSlot]

@[simp] theorem dropIfReady_cell (i j : CellIndex) (s : State) : (dropIfReady i s).cell j = s.cell j := by
  unfold dropIfReady; split <;> simp

/-- `PUBLISH_COMMIT`: the slots after it (42_packet_buffer.md R161). -/
theorem publishCommit_slot (s : State) (j : CellIndex) :
    (publishCommit s).slot j =
      if j = s.pubSlot then .ready else if s.slot j = .ready then .empty else s.slot j := by
  change (dropIfReady (otherCell s.pubSlot) (s.setSlot s.pubSlot .ready)).slot j = _
  rw [dropIfReady_slot, slot_setSlot, slot_setSlot]
  by_cases h : j = s.pubSlot
  · simp [h]
  · obtain rfl := eq_otherCell_of_ne h
    simp

@[simp] theorem publishCommit_cell (s : State) (j : CellIndex) : (publishCommit s).cell j = s.cell j := by
  change (dropIfReady (otherCell s.pubSlot) (s.setSlot s.pubSlot .ready)).cell j = _
  simp

@[simp] theorem publishCommit_latest (s : State) : (publishCommit s).latest = s.pubSlot := rfl
@[simp] theorem publishCommit_pubPending (s : State) : (publishCommit s).pubPending = false := rfl

/-- `TAKE` in one equation (42_packet_buffer.md R162). -/
theorem takeWord_eq_some {s t : State} {w : Word} :
    takeWord s = some (w, t) ↔ s.slot s.latest = .ready ∧ w = s.cell s.latest ∧ t = s.setSlot s.latest .empty := by
  unfold takeWord
  split <;> simp_all [eq_comm]

theorem takeWord_eq_none {s : State} : takeWord s = none ↔ s.slot s.latest ≠ .ready := by
  unfold takeWord
  split <;> simp_all

end Sys2Proof.Machine
end

