-- ==== Sys2Proof/Laws/Checks.lean ====
section
/-! SUPPORT. What the tests of a step say, and what a step is once they have passed. -/

namespace Sys2Proof.Machine

/-- The legal targets, as numbers (00_scope.md R8). -/
theorem targetLegal_iff (a : Address) : targetLegal a = true ↔ 1 ≤ a.toNat ∧ a.toNat ≤ 10239 := by
  unfold targetLegal Config.minTarget Config.maxTarget
  rw [Bool.and_eq_true, decide_eq_true_iff, decide_eq_true_iff]

theorem sampleLegal_iff (p : Params) : p.sampleLegal = true ↔ 1 ≤ p.tSampleTicks := by
  unfold Params.sampleLegal
  rw [decide_eq_true_iff]

theorem stuckLegal_iff (p : Params) : p.stuckLegal = true ↔ p.tSampleTicks + 2 ≤ p.tStuckTicks := by
  unfold Params.stuckLegal
  rw [decide_eq_true_iff]

/-- A legal instance, as numbers (00_scope.md R8). -/
theorem wf_iff (p : Params) :
    p.wf = true ↔ (1 ≤ p.targetAddr.toNat ∧ p.targetAddr.toNat ≤ 10239) ∧ 1 ≤ p.tSampleTicks ∧
      p.tSampleTicks + 2 ≤ p.tStuckTicks := by
  unfold Params.wf
  rw [Bool.and_eq_true, Bool.and_eq_true, targetLegal_iff, sampleLegal_iff, stuckLegal_iff, and_assoc]

/-- The short form is the one of targets up to 127 (10_state.md R34). -/
theorem shortMode_iff (p : Params) : p.shortMode = true ↔ p.targetAddr.toNat ≤ 127 := by
  unfold Params.shortMode Config.shortCeiling
  rw [decide_eq_true_iff]

/-- No clause of 10_state.md R40 is reported broken exactly when all eight hold. -/
theorem brokenClause_eq_none (s : State) : s.brokenClause = none ↔ s.Inv := by
  unfold State.brokenClause
  constructor
  · intro h
    split_ifs at h with h1 h2 h3 h4 h5 h6 h7 h8
    exact ⟨h1, h2, h3, h4, h5, h6, h7, h8⟩
  · rintro ⟨h1, h2, h3, h4, h5, h6, h7, h8⟩
    rw [if_neg (not_not.mpr h1), if_neg (not_not.mpr h2), if_neg (not_not.mpr h3), if_neg (not_not.mpr h4),
      if_neg (not_not.mpr h5), if_neg (not_not.mpr h6), if_neg (not_not.mpr h7), if_neg (not_not.mpr h8)]

/-- An instance has no problem exactly when 00_scope.md R8's three checks hold. -/
theorem paramProblem_eq_none (p : Params) : paramProblem p = none ↔ p.wf = true := by
  unfold paramProblem Params.wf
  cases targetLegal p.targetAddr <;> cases p.sampleLegal <;> cases p.stuckLegal <;> simp

/-- A legal instance takes its next agent step. -/
theorem step_of_wf {s : State} (h : s.params.wf = true) : step s = takeStep s.nextStep s.consume := by
  simp [step, (paramProblem_eq_none _).mpr h]

/-- A step that answers a next state was taken by a legal instance. -/
theorem step_next {s t : State} (h : step s = .next t) :
    s.params.wf = true ∧ takeStep s.nextStep s.consume = .next t := by
  unfold step at h
  split at h
  · cases h
  · exact ⟨(paramProblem_eq_none _).mp ‹_›, h⟩

/-- What a step that answers a next state can be: an instant of the full reset, or an agent's own step with the invariants whole. -/
theorem takeStep_next {a : AgentStep} {s t : State} (h : takeStep a s = .next t) :
    ((s.rstPin || assertsRst a) = true ∧ resetInstant a s = .next t) ∨
      ((s.rstPin || assertsRst a) = false ∧ s.Inv ∧ runStep a s = .next t) := by
  unfold takeStep at h
  split at h
  · exact .inl ⟨‹_›, h⟩
  · split at h
    · cases h
    · exact .inr ⟨Bool.eq_false_iff.mpr ‹_›, (brokenClause_eq_none s).mp ‹_›, h⟩

/-- Taking a step off the schedule keeps the invariants. -/
theorem consume_inv {s : State} (h : s.Inv) : s.consume.Inv := h

/-- With no reset in force and the invariants whole, a step is the agent's own. -/
theorem step_of_running {s : State} (h : s.Running) (ha : assertsRst s.nextStep = false) :
    step s = runStep s.nextStep s.consume := by
  obtain ⟨hw, hi, hr⟩ := h
  rw [step_of_wf hw]
  simp [takeStep, hr, ha, (brokenClause_eq_none s.consume).mpr (consume_inv hi)]

end Sys2Proof.Machine
end

