-- ==== Sys2Proof/Laws/Fields.lean ====
section
/-! SUPPORT. Which field of a packed RawPacketWord holds which byte, and which table bits a merge writes. -/

namespace Sys2Proof.Machine

/-- The address byte of a short-form word is its bits 31..24 (30_encoding.md R93). -/
@[simp] theorem packShort_addr (a i c : Byte) (t : BitVec 6) : (packShort a i c t).extractLsb' 24 8 = a := by
  apply BitVec.eq_of_getLsbD_eq
  intro j hj
  simp only [packShort, BitVec.getLsbD_extractLsb', BitVec.getLsbD_append]
  interval_cases j <;> simp

/-- The instruction byte of a short-form word is its bits 22..15 (30_encoding.md R93). -/
@[simp] theorem packShort_instr (a i c : Byte) (t : BitVec 6) : (packShort a i c t).extractLsb' 15 8 = i := by
  apply BitVec.eq_of_getLsbD_eq
  intro j hj
  simp only [packShort, BitVec.getLsbD_extractLsb', BitVec.getLsbD_append]
  interval_cases j <;> simp

/-- The checksum byte of a short-form word is its bits 13..6 (30_encoding.md R93). -/
@[simp] theorem packShort_chk (a i c : Byte) (t : BitVec 6) : (packShort a i c t).extractLsb' 6 8 = c := by
  apply BitVec.eq_of_getLsbD_eq
  intro j hj
  simp only [packShort, BitVec.getLsbD_extractLsb', BitVec.getLsbD_append]
  interval_cases j <;> simp

/-- The short address is the low seven bits of the address byte (30_encoding.md R95). -/
@[simp] theorem packShort_shortAddr (a i c : Byte) (t : BitVec 6) :
    shortAddr (packShort a i c t) = (a.extractLsb' 0 7).setWidth 14 := by
  rw [shortAddr]
  congr 1
  apply BitVec.eq_of_getLsbD_eq
  intro j hj
  simp only [packShort, BitVec.getLsbD_extractLsb', BitVec.getLsbD_append]
  interval_cases j <;> simp

/-- The first address byte of a long-form word is its bits 31..24 (30_encoding.md R94). -/
@[simp] theorem packLong_addr1 (b1 b2 i : Byte) (c : BitVec 5) : (packLong b1 b2 i c).extractLsb' 24 8 = b1 := by
  apply BitVec.eq_of_getLsbD_eq
  intro j hj
  simp only [packLong, BitVec.getLsbD_extractLsb', BitVec.getLsbD_append]
  interval_cases j <;> simp

/-- The second address byte of a long-form word is its bits 22..15 (30_encoding.md R94). -/
@[simp] theorem packLong_addr2 (b1 b2 i : Byte) (c : BitVec 5) : (packLong b1 b2 i c).extractLsb' 15 8 = b2 := by
  apply BitVec.eq_of_getLsbD_eq
  intro j hj
  simp only [packLong, BitVec.getLsbD_extractLsb', BitVec.getLsbD_append]
  interval_cases j <;> simp

/-- The instruction byte of a long-form word is its bits 13..6 (30_encoding.md R94). -/
@[simp] theorem packLong_instr (b1 b2 i : Byte) (c : BitVec 5) : (packLong b1 b2 i c).extractLsb' 6 8 = i := by
  apply BitVec.eq_of_getLsbD_eq
  intro j hj
  simp only [packLong, BitVec.getLsbD_extractLsb', BitVec.getLsbD_append]
  interval_cases j <;> simp

/-- The checksum bits of a long-form word are its bits 4..0 (30_encoding.md R94). -/
@[simp] theorem packLong_chk (b1 b2 i : Byte) (c : BitVec 5) : (packLong b1 b2 i c).extractLsb' 0 5 = c := by
  apply BitVec.eq_of_getLsbD_eq
  intro j hj
  simp only [packLong, BitVec.getLsbD_extractLsb', BitVec.getLsbD_append]
  interval_cases j <;> simp

/-- The long address is the low six bits of the first address byte and the second address byte (30_encoding.md R95). -/
@[simp] theorem packLong_longAddr (b1 b2 i : Byte) (c : BitVec 5) :
    longAddr (packLong b1 b2 i c) = b1.extractLsb' 0 6 ++ b2 := by
  rw [longAddr, packLong_addr2]
  congr 1
  apply BitVec.eq_of_getLsbD_eq
  intro j hj
  simp only [packLong, BitVec.getLsbD_extractLsb', BitVec.getLsbD_append]
  interval_cases j <;> simp

/-- The two address bytes put together again are the address (30_encoding.md R92, R95). -/
@[simp] theorem longBytes_addr (a : Address) : ((longByte1 a).extractLsb' 0 6 ++ longByte2 a : Address) = a := by
  apply BitVec.eq_of_getLsbD_eq
  intro j hj
  simp only [longByte1, longByte2, BitVec.getLsbD_extractLsb', BitVec.getLsbD_append]
  interval_cases j <;> simp

/-- The same 32 bits in the short and in the long layout (30_encoding.md R93, R94, R102). -/
theorem packShort_eq_packLong (a i1 i2 : Byte) (hi : BitVec 5) : packShort a i1 i2 (0#1 ++ hi) = packLong a i1 i2 hi := by
  apply BitVec.eq_of_getLsbD_eq
  intro j hj
  simp only [packShort, packLong, BitVec.getLsbD_append]
  interval_cases j <;> simp

/-- Which bit of a merged table comes from where (43_decoder.md R184). -/
theorem getLsbD_mergeGroup (t : Table) (base : Nat) (pay : Payload) (j : Nat) :
    (mergeGroup t base pay).getLsbD j =
      (decide (j < 13) && if base ≤ j ∧ j < base + 4 then pay.getLsbD (j - base) else t.getLsbD j) := by
  have hF : ∀ k, (0xF#13).getLsbD k = decide (k < 4) := by
    intro k
    by_cases hk : k < 13
    · revert k; decide
    · simp [BitVec.getLsbD_of_ge _ _ (Nat.le_of_not_lt hk)]; omega
  unfold mergeGroup
  simp only [BitVec.getLsbD_or, BitVec.getLsbD_and, BitVec.getLsbD_not, BitVec.getLsbD_shiftLeft, BitVec.getLsbD_setWidth, hF]
  by_cases h13 : j < 13
  · by_cases hb : j < base
    · simp [h13, hb, Nat.not_le.mpr hb]
    · by_cases h4 : j - base < 4
      · have : j < base + 4 := by omega
        have h1 : base ≤ j := by omega
        have h2 : j - base < 13 := by omega
        simp [h13, hb, h4, this, h1, h2]
      · have : ¬ j < base + 4 := by omega
        simp [h13, hb, h4, this, BitVec.getLsbD_of_ge pay (j - base) (by omega)]
  · simp [h13]

end Sys2Proof.Machine
end

