-- ==== Sys2Proof/Laws/Frames.lean ====
section
/-! SUPPORT. What each producer operation leaves unchanged, one lemma per field, so that callers never unfold it. -/

namespace Sys2Proof.Machine

/-! A publish begin writes its cell, its slot and the pending record. -/

@[simp] theorem publishBegin_params (w : Word) (s : State) : (publishBegin w s).params = s.params := rfl
@[simp] theorem publishBegin_rstPin (w : Word) (s : State) : (publishBegin w s).rstPin = s.rstPin := rfl
@[simp] theorem publishBegin_restartPin (w : Word) (s : State) : (publishBegin w s).restartPin = s.restartPin := rfl
@[simp] theorem publishBegin_smpState (w : Word) (s : State) : (publishBegin w s).smpState = s.smpState := rfl
@[simp] theorem publishBegin_smpCount (w : Word) (s : State) : (publishBegin w s).smpCount = s.smpCount := rfl
@[simp] theorem publishBegin_highRun (w : Word) (s : State) : (publishBegin w s).highRun = s.highRun := rfl
@[simp] theorem publishBegin_stuckFault (w : Word) (s : State) : (publishBegin w s).stuckFault = s.stuckFault := rfl
@[simp] theorem publishBegin_syncState (w : Word) (s : State) : (publishBegin w s).syncState = s.syncState := rfl
@[simp] theorem publishBegin_acc (w : Word) (s : State) : (publishBegin w s).acc = s.acc := rfl
@[simp] theorem publishBegin_decPhase (w : Word) (s : State) : (publishBegin w s).decPhase = s.decPhase := rfl
@[simp] theorem publishBegin_decWord (w : Word) (s : State) : (publishBegin w s).decWord = s.decWord := rfl
@[simp] theorem publishBegin_busy (w : Word) (s : State) : (publishBegin w s).busy = s.busy := rfl
@[simp] theorem publishBegin_fbt (w : Word) (s : State) : (publishBegin w s).fbt = s.fbt := rfl
@[simp] theorem publishBegin_reply (w : Word) (s : State) : (publishBegin w s).reply = s.reply := rfl
@[simp] theorem publishBegin_schedule (w : Word) (s : State) : (publishBegin w s).schedule = s.schedule := rfl
@[simp] theorem publishBegin_draws (w : Word) (s : State) : (publishBegin w s).draws = s.draws := rfl

/-! A drop writes a slot only. -/

@[simp] theorem dropIfReady_params (i : CellIndex) (s : State) : (dropIfReady i s).params = s.params := by unfold dropIfReady; split <;> rfl
@[simp] theorem dropIfReady_rstPin (i : CellIndex) (s : State) : (dropIfReady i s).rstPin = s.rstPin := by unfold dropIfReady; split <;> rfl
@[simp] theorem dropIfReady_restartPin (i : CellIndex) (s : State) : (dropIfReady i s).restartPin = s.restartPin := by unfold dropIfReady; split <;> rfl
@[simp] theorem dropIfReady_smpState (i : CellIndex) (s : State) : (dropIfReady i s).smpState = s.smpState := by unfold dropIfReady; split <;> rfl
@[simp] theorem dropIfReady_smpCount (i : CellIndex) (s : State) : (dropIfReady i s).smpCount = s.smpCount := by unfold dropIfReady; split <;> rfl
@[simp] theorem dropIfReady_highRun (i : CellIndex) (s : State) : (dropIfReady i s).highRun = s.highRun := by unfold dropIfReady; split <;> rfl
@[simp] theorem dropIfReady_stuckFault (i : CellIndex) (s : State) : (dropIfReady i s).stuckFault = s.stuckFault := by unfold dropIfReady; split <;> rfl
@[simp] theorem dropIfReady_syncState (i : CellIndex) (s : State) : (dropIfReady i s).syncState = s.syncState := by unfold dropIfReady; split <;> rfl
@[simp] theorem dropIfReady_acc (i : CellIndex) (s : State) : (dropIfReady i s).acc = s.acc := by unfold dropIfReady; split <;> rfl
@[simp] theorem dropIfReady_pubPending (i : CellIndex) (s : State) : (dropIfReady i s).pubPending = s.pubPending := by unfold dropIfReady; split <;> rfl
@[simp] theorem dropIfReady_pubSlot (i : CellIndex) (s : State) : (dropIfReady i s).pubSlot = s.pubSlot := by unfold dropIfReady; split <;> rfl
@[simp] theorem dropIfReady_cell0 (i : CellIndex) (s : State) : (dropIfReady i s).cell0 = s.cell0 := by unfold dropIfReady; split <;> rfl
@[simp] theorem dropIfReady_cell1 (i : CellIndex) (s : State) : (dropIfReady i s).cell1 = s.cell1 := by unfold dropIfReady; split <;> rfl
@[simp] theorem dropIfReady_latest (i : CellIndex) (s : State) : (dropIfReady i s).latest = s.latest := by unfold dropIfReady; split <;> rfl
@[simp] theorem dropIfReady_decPhase (i : CellIndex) (s : State) : (dropIfReady i s).decPhase = s.decPhase := by unfold dropIfReady; split <;> rfl
@[simp] theorem dropIfReady_decWord (i : CellIndex) (s : State) : (dropIfReady i s).decWord = s.decWord := by unfold dropIfReady; split <;> rfl
@[simp] theorem dropIfReady_busy (i : CellIndex) (s : State) : (dropIfReady i s).busy = s.busy := by unfold dropIfReady; split <;> rfl
@[simp] theorem dropIfReady_fbt (i : CellIndex) (s : State) : (dropIfReady i s).fbt = s.fbt := by unfold dropIfReady; split <;> rfl
@[simp] theorem dropIfReady_reply (i : CellIndex) (s : State) : (dropIfReady i s).reply = s.reply := by unfold dropIfReady; split <;> rfl
@[simp] theorem dropIfReady_schedule (i : CellIndex) (s : State) : (dropIfReady i s).schedule = s.schedule := by unfold dropIfReady; split <;> rfl
@[simp] theorem dropIfReady_draws (i : CellIndex) (s : State) : (dropIfReady i s).draws = s.draws := by unfold dropIfReady; split <;> rfl

/-! A commit writes slots, `latest` and the pending flag. -/

@[simp] theorem publishCommit_params (s : State) : (publishCommit s).params = s.params := by simp [publishCommit]
@[simp] theorem publishCommit_rstPin (s : State) : (publishCommit s).rstPin = s.rstPin := by simp [publishCommit]
@[simp] theorem publishCommit_restartPin (s : State) : (publishCommit s).restartPin = s.restartPin := by simp [publishCommit]
@[simp] theorem publishCommit_smpState (s : State) : (publishCommit s).smpState = s.smpState := by simp [publishCommit]
@[simp] theorem publishCommit_smpCount (s : State) : (publishCommit s).smpCount = s.smpCount := by simp [publishCommit]
@[simp] theorem publishCommit_highRun (s : State) : (publishCommit s).highRun = s.highRun := by simp [publishCommit]
@[simp] theorem publishCommit_stuckFault (s : State) : (publishCommit s).stuckFault = s.stuckFault := by simp [publishCommit]
@[simp] theorem publishCommit_syncState (s : State) : (publishCommit s).syncState = s.syncState := by simp [publishCommit]
@[simp] theorem publishCommit_acc (s : State) : (publishCommit s).acc = s.acc := by simp [publishCommit]
@[simp] theorem publishCommit_pubSlot (s : State) : (publishCommit s).pubSlot = s.pubSlot := by simp [publishCommit]
@[simp] theorem publishCommit_cell0 (s : State) : (publishCommit s).cell0 = s.cell0 := by simp [publishCommit]
@[simp] theorem publishCommit_cell1 (s : State) : (publishCommit s).cell1 = s.cell1 := by simp [publishCommit]
@[simp] theorem publishCommit_decPhase (s : State) : (publishCommit s).decPhase = s.decPhase := by simp [publishCommit]
@[simp] theorem publishCommit_decWord (s : State) : (publishCommit s).decWord = s.decWord := by simp [publishCommit]
@[simp] theorem publishCommit_busy (s : State) : (publishCommit s).busy = s.busy := by simp [publishCommit]
@[simp] theorem publishCommit_fbt (s : State) : (publishCommit s).fbt = s.fbt := by simp [publishCommit]
@[simp] theorem publishCommit_reply (s : State) : (publishCommit s).reply = s.reply := by simp [publishCommit]
@[simp] theorem publishCommit_schedule (s : State) : (publishCommit s).schedule = s.schedule := by simp [publishCommit]
@[simp] theorem publishCommit_draws (s : State) : (publishCommit s).draws = s.draws := by simp [publishCommit]

/-! A due commit writes the same. -/

@[simp] theorem commitIfPending_params (s : State) : (commitIfPending s).params = s.params := by unfold commitIfPending; split <;> simp
@[simp] theorem commitIfPending_rstPin (s : State) : (commitIfPending s).rstPin = s.rstPin := by unfold commitIfPending; split <;> simp
@[simp] theorem commitIfPending_restartPin (s : State) : (commitIfPending s).restartPin = s.restartPin := by unfold commitIfPending; split <;> simp
@[simp] theorem commitIfPending_smpState (s : State) : (commitIfPending s).smpState = s.smpState := by unfold commitIfPending; split <;> simp
@[simp] theorem commitIfPending_smpCount (s : State) : (commitIfPending s).smpCount = s.smpCount := by unfold commitIfPending; split <;> simp
@[simp] theorem commitIfPending_highRun (s : State) : (commitIfPending s).highRun = s.highRun := by unfold commitIfPending; split <;> simp
@[simp] theorem commitIfPending_stuckFault (s : State) : (commitIfPending s).stuckFault = s.stuckFault := by unfold commitIfPending; split <;> simp
@[simp] theorem commitIfPending_syncState (s : State) : (commitIfPending s).syncState = s.syncState := by unfold commitIfPending; split <;> simp
@[simp] theorem commitIfPending_acc (s : State) : (commitIfPending s).acc = s.acc := by unfold commitIfPending; split <;> simp
@[simp] theorem commitIfPending_pubSlot (s : State) : (commitIfPending s).pubSlot = s.pubSlot := by unfold commitIfPending; split <;> simp
@[simp] theorem commitIfPending_cell0 (s : State) : (commitIfPending s).cell0 = s.cell0 := by unfold commitIfPending; split <;> simp
@[simp] theorem commitIfPending_cell1 (s : State) : (commitIfPending s).cell1 = s.cell1 := by unfold commitIfPending; split <;> simp
@[simp] theorem commitIfPending_decPhase (s : State) : (commitIfPending s).decPhase = s.decPhase := by unfold commitIfPending; split <;> simp
@[simp] theorem commitIfPending_decWord (s : State) : (commitIfPending s).decWord = s.decWord := by unfold commitIfPending; split <;> simp
@[simp] theorem commitIfPending_busy (s : State) : (commitIfPending s).busy = s.busy := by unfold commitIfPending; split <;> simp
@[simp] theorem commitIfPending_fbt (s : State) : (commitIfPending s).fbt = s.fbt := by unfold commitIfPending; split <;> simp
@[simp] theorem commitIfPending_reply (s : State) : (commitIfPending s).reply = s.reply := by unfold commitIfPending; split <;> simp
@[simp] theorem commitIfPending_schedule (s : State) : (commitIfPending s).schedule = s.schedule := by unfold commitIfPending; split <;> simp
@[simp] theorem commitIfPending_draws (s : State) : (commitIfPending s).draws = s.draws := by unfold commitIfPending; split <;> simp

/-! A synchronizer step writes its own state, the accumulator and a publish begin. -/

@[simp] theorem syncStep_params (b : Bool) (s : State) : (syncStep b s).params = s.params := by unfold syncStep seekStartBitStep gatherStep; (repeat' split) <;> simp
@[simp] theorem syncStep_rstPin (b : Bool) (s : State) : (syncStep b s).rstPin = s.rstPin := by unfold syncStep seekStartBitStep gatherStep; (repeat' split) <;> simp
@[simp] theorem syncStep_restartPin (b : Bool) (s : State) : (syncStep b s).restartPin = s.restartPin := by unfold syncStep seekStartBitStep gatherStep; (repeat' split) <;> simp
@[simp] theorem syncStep_decPhase (b : Bool) (s : State) : (syncStep b s).decPhase = s.decPhase := by unfold syncStep seekStartBitStep gatherStep; (repeat' split) <;> simp
@[simp] theorem syncStep_decWord (b : Bool) (s : State) : (syncStep b s).decWord = s.decWord := by unfold syncStep seekStartBitStep gatherStep; (repeat' split) <;> simp
@[simp] theorem syncStep_busy (b : Bool) (s : State) : (syncStep b s).busy = s.busy := by unfold syncStep seekStartBitStep gatherStep; (repeat' split) <;> simp
@[simp] theorem syncStep_fbt (b : Bool) (s : State) : (syncStep b s).fbt = s.fbt := by unfold syncStep seekStartBitStep gatherStep; (repeat' split) <;> simp
@[simp] theorem syncStep_reply (b : Bool) (s : State) : (syncStep b s).reply = s.reply := by unfold syncStep seekStartBitStep gatherStep; (repeat' split) <;> simp
@[simp] theorem syncStep_schedule (b : Bool) (s : State) : (syncStep b s).schedule = s.schedule := by unfold syncStep seekStartBitStep gatherStep; (repeat' split) <;> simp
@[simp] theorem syncStep_draws (b : Bool) (s : State) : (syncStep b s).draws = s.draws := by unfold syncStep seekStartBitStep gatherStep; (repeat' split) <;> simp
@[simp] theorem syncStep_smpState (b : Bool) (s : State) : (syncStep b s).smpState = s.smpState := by unfold syncStep seekStartBitStep gatherStep; (repeat' split) <;> simp
@[simp] theorem syncStep_smpCount (b : Bool) (s : State) : (syncStep b s).smpCount = s.smpCount := by unfold syncStep seekStartBitStep gatherStep; (repeat' split) <;> simp
@[simp] theorem syncStep_highRun (b : Bool) (s : State) : (syncStep b s).highRun = s.highRun := by unfold syncStep seekStartBitStep gatherStep; (repeat' split) <;> simp
@[simp] theorem syncStep_stuckFault (b : Bool) (s : State) : (syncStep b s).stuckFault = s.stuckFault := by unfold syncStep seekStartBitStep gatherStep; (repeat' split) <;> simp

/-! One LogicalBit and its commit keep the sampler and the decoder. -/

@[simp] theorem feedBit_params (b : Bool) (s : State) : (feedBit s b).params = s.params := by simp [feedBit]
@[simp] theorem feedBit_rstPin (b : Bool) (s : State) : (feedBit s b).rstPin = s.rstPin := by simp [feedBit]
@[simp] theorem feedBit_restartPin (b : Bool) (s : State) : (feedBit s b).restartPin = s.restartPin := by simp [feedBit]
@[simp] theorem feedBit_decPhase (b : Bool) (s : State) : (feedBit s b).decPhase = s.decPhase := by simp [feedBit]
@[simp] theorem feedBit_decWord (b : Bool) (s : State) : (feedBit s b).decWord = s.decWord := by simp [feedBit]
@[simp] theorem feedBit_busy (b : Bool) (s : State) : (feedBit s b).busy = s.busy := by simp [feedBit]
@[simp] theorem feedBit_fbt (b : Bool) (s : State) : (feedBit s b).fbt = s.fbt := by simp [feedBit]
@[simp] theorem feedBit_reply (b : Bool) (s : State) : (feedBit s b).reply = s.reply := by simp [feedBit]
@[simp] theorem feedBit_schedule (b : Bool) (s : State) : (feedBit s b).schedule = s.schedule := by simp [feedBit]
@[simp] theorem feedBit_draws (b : Bool) (s : State) : (feedBit s b).draws = s.draws := by simp [feedBit]
@[simp] theorem feedBit_smpState (b : Bool) (s : State) : (feedBit s b).smpState = s.smpState := by simp [feedBit]
@[simp] theorem feedBit_smpCount (b : Bool) (s : State) : (feedBit s b).smpCount = s.smpCount := by simp [feedBit]
@[simp] theorem feedBit_highRun (b : Bool) (s : State) : (feedBit s b).highRun = s.highRun := by simp [feedBit]
@[simp] theorem feedBit_stuckFault (b : Bool) (s : State) : (feedBit s b).stuckFault = s.stuckFault := by simp [feedBit]

/-! The sampler's move writes its own state and countdown. -/

@[simp] theorem sampleMove_params (level : Bool) (s : State) : (sampleMove level s).params = s.params := by unfold sampleMove; (repeat' split) <;> rfl
@[simp] theorem sampleMove_rstPin (level : Bool) (s : State) : (sampleMove level s).rstPin = s.rstPin := by unfold sampleMove; (repeat' split) <;> rfl
@[simp] theorem sampleMove_restartPin (level : Bool) (s : State) : (sampleMove level s).restartPin = s.restartPin := by unfold sampleMove; (repeat' split) <;> rfl
@[simp] theorem sampleMove_highRun (level : Bool) (s : State) : (sampleMove level s).highRun = s.highRun := by unfold sampleMove; (repeat' split) <;> rfl
@[simp] theorem sampleMove_stuckFault (level : Bool) (s : State) : (sampleMove level s).stuckFault = s.stuckFault := by unfold sampleMove; (repeat' split) <;> rfl
@[simp] theorem sampleMove_syncState (level : Bool) (s : State) : (sampleMove level s).syncState = s.syncState := by unfold sampleMove; (repeat' split) <;> rfl
@[simp] theorem sampleMove_acc (level : Bool) (s : State) : (sampleMove level s).acc = s.acc := by unfold sampleMove; (repeat' split) <;> rfl
@[simp] theorem sampleMove_pubPending (level : Bool) (s : State) : (sampleMove level s).pubPending = s.pubPending := by unfold sampleMove; (repeat' split) <;> rfl
@[simp] theorem sampleMove_pubSlot (level : Bool) (s : State) : (sampleMove level s).pubSlot = s.pubSlot := by unfold sampleMove; (repeat' split) <;> rfl
@[simp] theorem sampleMove_cell0 (level : Bool) (s : State) : (sampleMove level s).cell0 = s.cell0 := by unfold sampleMove; (repeat' split) <;> rfl
@[simp] theorem sampleMove_cell1 (level : Bool) (s : State) : (sampleMove level s).cell1 = s.cell1 := by unfold sampleMove; (repeat' split) <;> rfl
@[simp] theorem sampleMove_slot0 (level : Bool) (s : State) : (sampleMove level s).slot0 = s.slot0 := by unfold sampleMove; (repeat' split) <;> rfl
@[simp] theorem sampleMove_slot1 (level : Bool) (s : State) : (sampleMove level s).slot1 = s.slot1 := by unfold sampleMove; (repeat' split) <;> rfl
@[simp] theorem sampleMove_latest (level : Bool) (s : State) : (sampleMove level s).latest = s.latest := by unfold sampleMove; (repeat' split) <;> rfl
@[simp] theorem sampleMove_decPhase (level : Bool) (s : State) : (sampleMove level s).decPhase = s.decPhase := by unfold sampleMove; (repeat' split) <;> rfl
@[simp] theorem sampleMove_decWord (level : Bool) (s : State) : (sampleMove level s).decWord = s.decWord := by unfold sampleMove; (repeat' split) <;> rfl
@[simp] theorem sampleMove_busy (level : Bool) (s : State) : (sampleMove level s).busy = s.busy := by unfold sampleMove; (repeat' split) <;> rfl
@[simp] theorem sampleMove_fbt (level : Bool) (s : State) : (sampleMove level s).fbt = s.fbt := by unfold sampleMove; (repeat' split) <;> rfl
@[simp] theorem sampleMove_reply (level : Bool) (s : State) : (sampleMove level s).reply = s.reply := by unfold sampleMove; (repeat' split) <;> rfl
@[simp] theorem sampleMove_schedule (level : Bool) (s : State) : (sampleMove level s).schedule = s.schedule := by unfold sampleMove; (repeat' split) <;> rfl
@[simp] theorem sampleMove_draws (level : Bool) (s : State) : (sampleMove level s).draws = s.draws := by unfold sampleMove; (repeat' split) <;> rfl

/-! Passing a bit on is a synchronizer step or nothing. -/

@[simp] theorem passBit_params (b : Option Bool) (s : State) : (passBit b s).params = s.params := by unfold passBit; split <;> simp
@[simp] theorem passBit_rstPin (b : Option Bool) (s : State) : (passBit b s).rstPin = s.rstPin := by unfold passBit; split <;> simp
@[simp] theorem passBit_restartPin (b : Option Bool) (s : State) : (passBit b s).restartPin = s.restartPin := by unfold passBit; split <;> simp
@[simp] theorem passBit_decPhase (b : Option Bool) (s : State) : (passBit b s).decPhase = s.decPhase := by unfold passBit; split <;> simp
@[simp] theorem passBit_decWord (b : Option Bool) (s : State) : (passBit b s).decWord = s.decWord := by unfold passBit; split <;> simp
@[simp] theorem passBit_busy (b : Option Bool) (s : State) : (passBit b s).busy = s.busy := by unfold passBit; split <;> simp
@[simp] theorem passBit_fbt (b : Option Bool) (s : State) : (passBit b s).fbt = s.fbt := by unfold passBit; split <;> simp
@[simp] theorem passBit_reply (b : Option Bool) (s : State) : (passBit b s).reply = s.reply := by unfold passBit; split <;> simp
@[simp] theorem passBit_schedule (b : Option Bool) (s : State) : (passBit b s).schedule = s.schedule := by unfold passBit; split <;> simp
@[simp] theorem passBit_draws (b : Option Bool) (s : State) : (passBit b s).draws = s.draws := by unfold passBit; split <;> simp
@[simp] theorem passBit_smpState (b : Option Bool) (s : State) : (passBit b s).smpState = s.smpState := by unfold passBit; split <;> simp
@[simp] theorem passBit_smpCount (b : Option Bool) (s : State) : (passBit b s).smpCount = s.smpCount := by unfold passBit; split <;> simp
@[simp] theorem passBit_highRun (b : Option Bool) (s : State) : (passBit b s).highRun = s.highRun := by unfold passBit; split <;> simp
@[simp] theorem passBit_stuckFault (b : Option Bool) (s : State) : (passBit b s).stuckFault = s.stuckFault := by unfold passBit; split <;> simp

/-! The stuck-high test writes the fault state only. -/

@[simp] theorem checkStuck_params (s : State) : (checkStuck s).params = s.params := by unfold checkStuck; split <;> rfl
@[simp] theorem checkStuck_rstPin (s : State) : (checkStuck s).rstPin = s.rstPin := by unfold checkStuck; split <;> rfl
@[simp] theorem checkStuck_restartPin (s : State) : (checkStuck s).restartPin = s.restartPin := by unfold checkStuck; split <;> rfl
@[simp] theorem checkStuck_smpCount (s : State) : (checkStuck s).smpCount = s.smpCount := by unfold checkStuck; split <;> rfl
@[simp] theorem checkStuck_highRun (s : State) : (checkStuck s).highRun = s.highRun := by unfold checkStuck; split <;> rfl
@[simp] theorem checkStuck_syncState (s : State) : (checkStuck s).syncState = s.syncState := by unfold checkStuck; split <;> rfl
@[simp] theorem checkStuck_acc (s : State) : (checkStuck s).acc = s.acc := by unfold checkStuck; split <;> rfl
@[simp] theorem checkStuck_pubPending (s : State) : (checkStuck s).pubPending = s.pubPending := by unfold checkStuck; split <;> rfl
@[simp] theorem checkStuck_pubSlot (s : State) : (checkStuck s).pubSlot = s.pubSlot := by unfold checkStuck; split <;> rfl
@[simp] theorem checkStuck_cell0 (s : State) : (checkStuck s).cell0 = s.cell0 := by unfold checkStuck; split <;> rfl
@[simp] theorem checkStuck_cell1 (s : State) : (checkStuck s).cell1 = s.cell1 := by unfold checkStuck; split <;> rfl
@[simp] theorem checkStuck_slot0 (s : State) : (checkStuck s).slot0 = s.slot0 := by unfold checkStuck; split <;> rfl
@[simp] theorem checkStuck_slot1 (s : State) : (checkStuck s).slot1 = s.slot1 := by unfold checkStuck; split <;> rfl
@[simp] theorem checkStuck_latest (s : State) : (checkStuck s).latest = s.latest := by unfold checkStuck; split <;> rfl
@[simp] theorem checkStuck_decPhase (s : State) : (checkStuck s).decPhase = s.decPhase := by unfold checkStuck; split <;> rfl
@[simp] theorem checkStuck_decWord (s : State) : (checkStuck s).decWord = s.decWord := by unfold checkStuck; split <;> rfl
@[simp] theorem checkStuck_busy (s : State) : (checkStuck s).busy = s.busy := by unfold checkStuck; split <;> rfl
@[simp] theorem checkStuck_fbt (s : State) : (checkStuck s).fbt = s.fbt := by unfold checkStuck; split <;> rfl
@[simp] theorem checkStuck_reply (s : State) : (checkStuck s).reply = s.reply := by unfold checkStuck; split <;> rfl
@[simp] theorem checkStuck_schedule (s : State) : (checkStuck s).schedule = s.schedule := by unfold checkStuck; split <;> rfl
@[simp] theorem checkStuck_draws (s : State) : (checkStuck s).draws = s.draws := by unfold checkStuck; split <;> rfl

/-! A tick keeps the environment and the decoder. -/

@[simp] theorem sampleTick_params (level : Bool) (s : State) : (sampleTick level s).params = s.params := by simp [sampleTick]
@[simp] theorem sampleTick_rstPin (level : Bool) (s : State) : (sampleTick level s).rstPin = s.rstPin := by simp [sampleTick]
@[simp] theorem sampleTick_restartPin (level : Bool) (s : State) : (sampleTick level s).restartPin = s.restartPin := by simp [sampleTick]
@[simp] theorem sampleTick_decPhase (level : Bool) (s : State) : (sampleTick level s).decPhase = s.decPhase := by simp [sampleTick]
@[simp] theorem sampleTick_decWord (level : Bool) (s : State) : (sampleTick level s).decWord = s.decWord := by simp [sampleTick]
@[simp] theorem sampleTick_busy (level : Bool) (s : State) : (sampleTick level s).busy = s.busy := by simp [sampleTick]
@[simp] theorem sampleTick_fbt (level : Bool) (s : State) : (sampleTick level s).fbt = s.fbt := by simp [sampleTick]
@[simp] theorem sampleTick_reply (level : Bool) (s : State) : (sampleTick level s).reply = s.reply := by simp [sampleTick]
@[simp] theorem sampleTick_schedule (level : Bool) (s : State) : (sampleTick level s).schedule = s.schedule := by simp [sampleTick]
@[simp] theorem sampleTick_draws (level : Bool) (s : State) : (sampleTick level s).draws = s.draws := by simp [sampleTick]

/-! A tick keeps the environment and the decoder. -/

@[simp] theorem tick_params (level : Bool) (s : State) : (tick level s).params = s.params := by unfold tick; split <;> simp
@[simp] theorem tick_rstPin (level : Bool) (s : State) : (tick level s).rstPin = s.rstPin := by unfold tick; split <;> simp
@[simp] theorem tick_restartPin (level : Bool) (s : State) : (tick level s).restartPin = s.restartPin := by unfold tick; split <;> simp
@[simp] theorem tick_decPhase (level : Bool) (s : State) : (tick level s).decPhase = s.decPhase := by unfold tick; split <;> simp
@[simp] theorem tick_decWord (level : Bool) (s : State) : (tick level s).decWord = s.decWord := by unfold tick; split <;> simp
@[simp] theorem tick_busy (level : Bool) (s : State) : (tick level s).busy = s.busy := by unfold tick; split <;> simp
@[simp] theorem tick_fbt (level : Bool) (s : State) : (tick level s).fbt = s.fbt := by unfold tick; split <;> simp
@[simp] theorem tick_reply (level : Bool) (s : State) : (tick level s).reply = s.reply := by unfold tick; split <;> simp
@[simp] theorem tick_schedule (level : Bool) (s : State) : (tick level s).schedule = s.schedule := by unfold tick; split <;> simp
@[simp] theorem tick_draws (level : Bool) (s : State) : (tick level s).draws = s.draws := by unfold tick; split <;> simp

/-! Abandoning a publish writes a slot and the pending flag. -/

@[simp] theorem abandonPublish_params (s : State) : (abandonPublish s).params = s.params := by unfold abandonPublish; split <;> rfl
@[simp] theorem abandonPublish_rstPin (s : State) : (abandonPublish s).rstPin = s.rstPin := by unfold abandonPublish; split <;> rfl
@[simp] theorem abandonPublish_restartPin (s : State) : (abandonPublish s).restartPin = s.restartPin := by unfold abandonPublish; split <;> rfl
@[simp] theorem abandonPublish_smpState (s : State) : (abandonPublish s).smpState = s.smpState := by unfold abandonPublish; split <;> rfl
@[simp] theorem abandonPublish_smpCount (s : State) : (abandonPublish s).smpCount = s.smpCount := by unfold abandonPublish; split <;> rfl
@[simp] theorem abandonPublish_highRun (s : State) : (abandonPublish s).highRun = s.highRun := by unfold abandonPublish; split <;> rfl
@[simp] theorem abandonPublish_stuckFault (s : State) : (abandonPublish s).stuckFault = s.stuckFault := by unfold abandonPublish; split <;> rfl
@[simp] theorem abandonPublish_syncState (s : State) : (abandonPublish s).syncState = s.syncState := by unfold abandonPublish; split <;> rfl
@[simp] theorem abandonPublish_acc (s : State) : (abandonPublish s).acc = s.acc := by unfold abandonPublish; split <;> rfl
@[simp] theorem abandonPublish_pubSlot (s : State) : (abandonPublish s).pubSlot = s.pubSlot := by unfold abandonPublish; split <;> rfl
@[simp] theorem abandonPublish_cell0 (s : State) : (abandonPublish s).cell0 = s.cell0 := by unfold abandonPublish; split <;> rfl
@[simp] theorem abandonPublish_cell1 (s : State) : (abandonPublish s).cell1 = s.cell1 := by unfold abandonPublish; split <;> rfl
@[simp] theorem abandonPublish_latest (s : State) : (abandonPublish s).latest = s.latest := by unfold abandonPublish; split <;> rfl
@[simp] theorem abandonPublish_decPhase (s : State) : (abandonPublish s).decPhase = s.decPhase := by unfold abandonPublish; split <;> rfl
@[simp] theorem abandonPublish_decWord (s : State) : (abandonPublish s).decWord = s.decWord := by unfold abandonPublish; split <;> rfl
@[simp] theorem abandonPublish_busy (s : State) : (abandonPublish s).busy = s.busy := by unfold abandonPublish; split <;> rfl
@[simp] theorem abandonPublish_fbt (s : State) : (abandonPublish s).fbt = s.fbt := by unfold abandonPublish; split <;> rfl
@[simp] theorem abandonPublish_reply (s : State) : (abandonPublish s).reply = s.reply := by unfold abandonPublish; split <;> rfl
@[simp] theorem abandonPublish_schedule (s : State) : (abandonPublish s).schedule = s.schedule := by unfold abandonPublish; split <;> rfl
@[simp] theorem abandonPublish_draws (s : State) : (abandonPublish s).draws = s.draws := by unfold abandonPublish; split <;> rfl

/-! A sampler restart keeps the cells, `latest`, the environment and the decoder. -/

@[simp] theorem restartSampler_params (s : State) : (restartSampler s).params = s.params := by simp [restartSampler]
@[simp] theorem restartSampler_rstPin (s : State) : (restartSampler s).rstPin = s.rstPin := by simp [restartSampler]
@[simp] theorem restartSampler_restartPin (s : State) : (restartSampler s).restartPin = s.restartPin := by simp [restartSampler]
@[simp] theorem restartSampler_decPhase (s : State) : (restartSampler s).decPhase = s.decPhase := by simp [restartSampler]
@[simp] theorem restartSampler_decWord (s : State) : (restartSampler s).decWord = s.decWord := by simp [restartSampler]
@[simp] theorem restartSampler_busy (s : State) : (restartSampler s).busy = s.busy := by simp [restartSampler]
@[simp] theorem restartSampler_fbt (s : State) : (restartSampler s).fbt = s.fbt := by simp [restartSampler]
@[simp] theorem restartSampler_reply (s : State) : (restartSampler s).reply = s.reply := by simp [restartSampler]
@[simp] theorem restartSampler_schedule (s : State) : (restartSampler s).schedule = s.schedule := by simp [restartSampler]
@[simp] theorem restartSampler_draws (s : State) : (restartSampler s).draws = s.draws := by simp [restartSampler]
@[simp] theorem restartSampler_pubSlot (s : State) : (restartSampler s).pubSlot = s.pubSlot := by simp [restartSampler]
@[simp] theorem restartSampler_cell0 (s : State) : (restartSampler s).cell0 = s.cell0 := by simp [restartSampler]
@[simp] theorem restartSampler_cell1 (s : State) : (restartSampler s).cell1 = s.cell1 := by simp [restartSampler]
@[simp] theorem restartSampler_latest (s : State) : (restartSampler s).latest = s.latest := by simp [restartSampler]

end Sys2Proof.Machine
end

