-- ==== Sys2Proof/Laws/PerInstr.lean ====
section
/-! SUPPORT. What holds of every instruction as syntax, one lemma per constructor: its byte stands in its own row of the opcode
table (30_encoding.md R97, R107; spec/opcode_table.json). -/

namespace Sys2Proof.Laws.TableRow

/-- The row's match on bits 7..4, as the opcode table gives it. -/
def rowOf (i : Instr) : Byte :=
  match i with
  | .sel0000 _ => 0x00
  | .sel0001 _ => 0x10
  | .sel0010 _ => 0x20
  | .sel0011 _ => 0x30
  | .sel0100 _ => 0x40
  | .sel0101 _ => 0x50
  | .sel0110 _ => 0x60
  | .sel0111 _ => 0x70
  | .fgF1F4A _ => 0x80
  | .fgF1F4B _ => 0x90
  | .fgF9F12 _ => 0xA0
  | .fgF5F8 _ => 0xB0
  | .sel1100 _ => 0xC0
  | .sel1101 _ => 0xD0
  | .sel1110 _ => 0xE0
  | .sel1111 _ => 0xF0

/-- The instruction's byte under the table's mask is its row's match, and the byte's other bits are the payload, whole. -/
def Statement (i : Instr) : Prop :=
  encode i &&& 0xF0 = rowOf i ∧ (encode i).extractLsb' 0 4 = payloadBits i

theorem sel0000 : ∀ pay, Statement (.sel0000 pay) := by unfold Statement; decide
theorem sel0001 : ∀ pay, Statement (.sel0001 pay) := by unfold Statement; decide
theorem sel0010 : ∀ pay, Statement (.sel0010 pay) := by unfold Statement; decide
theorem sel0011 : ∀ pay, Statement (.sel0011 pay) := by unfold Statement; decide
theorem sel0100 : ∀ pay, Statement (.sel0100 pay) := by unfold Statement; decide
theorem sel0101 : ∀ pay, Statement (.sel0101 pay) := by unfold Statement; decide
theorem sel0110 : ∀ pay, Statement (.sel0110 pay) := by unfold Statement; decide
theorem sel0111 : ∀ pay, Statement (.sel0111 pay) := by unfold Statement; decide
theorem fgF1F4A : ∀ pay, Statement (.fgF1F4A pay) := by unfold Statement; decide
theorem fgF1F4B : ∀ pay, Statement (.fgF1F4B pay) := by unfold Statement; decide
theorem fgF9F12 : ∀ pay, Statement (.fgF9F12 pay) := by unfold Statement; decide
theorem fgF5F8 : ∀ pay, Statement (.fgF5F8 pay) := by unfold Statement; decide
theorem sel1100 : ∀ pay, Statement (.sel1100 pay) := by unfold Statement; decide
theorem sel1101 : ∀ pay, Statement (.sel1101 pay) := by unfold Statement; decide
theorem sel1110 : ∀ pay, Statement (.sel1110 pay) := by unfold Statement; decide
theorem sel1111 : ∀ pay, Statement (.sel1111 pay) := by unfold Statement; decide

end Sys2Proof.Laws.TableRow
end

