-- ==== Sys2Proof/Laws/Stream.lean ====
section
/-! SUPPORT. What one LogicalBit does in each state of the synchronizer, and how runs over streams are cut, once. -/

namespace Sys2Proof.Machine

@[simp] theorem setSync_setSync (x y : SyncState) (s : State) : setSync x (setSync y s) = setSync x s := rfl
@[simp] theorem setAcc_setAcc (a b : Word) (s : State) : setAcc a (setAcc b s) = setAcc a s := rfl
theorem setAcc_setSync (a : Word) (x : SyncState) (s : State) : setAcc a (setSync x s) = setSync x (setAcc a s) := rfl
@[simp] theorem setSync_self (s : State) : setSync s.syncState s = s := rfl
@[simp] theorem setSync_slot (x : SyncState) (s : State) (i : CellIndex) : (setSync x s).slot i = s.slot i := rfl
@[simp] theorem setAcc_slot (a : Word) (s : State) (i : CellIndex) : (setAcc a s).slot i = s.slot i := rfl
@[simp] theorem setSync_cell (x : SyncState) (s : State) (i : CellIndex) : (setSync x s).cell i = s.cell i := rfl
@[simp] theorem setAcc_cell (a : Word) (s : State) (i : CellIndex) : (setAcc a s).cell i = s.cell i := rfl

theorem publishBegin_setSync (w : Word) (x : SyncState) (s : State) :
    publishBegin w (setSync x s) = setSync x (publishBegin w s) := rfl

theorem publishBegin_setAcc (w a : Word) (s : State) : publishBegin w (setAcc a s) = setAcc a (publishBegin w s) := rfl

theorem publishCommit_setSync (x : SyncState) (s : State) : publishCommit (setSync x s) = setSync x (publishCommit s) := by
  have h : ∀ i u, dropIfReady i (setSync x u) = setSync x (dropIfReady i u) := by
    intro i u
    unfold dropIfReady
    rw [setSync_slot]
    split <;> rfl
  have e : (setSync x s).setSlot s.pubSlot .ready = setSync x (s.setSlot s.pubSlot .ready) := rfl
  unfold publishCommit
  rw [setSync_pubSlot, e, h]
  rfl

theorem publishCommit_setAcc (a : Word) (s : State) : publishCommit (setAcc a s) = setAcc a (publishCommit s) := by
  have h : ∀ i u, dropIfReady i (setAcc a u) = setAcc a (dropIfReady i u) := by
    intro i u
    unfold dropIfReady
    rw [setAcc_slot]
    split <;> rfl
  have e : (setAcc a s).setSlot s.pubSlot .ready = setAcc a (s.setSlot s.pubSlot .ready) := rfl
  unfold publishCommit
  rw [setAcc_pubSlot, e, h]
  rfl

/-- Where a frame started from, its accumulator and synchronizer state, does not matter once it is whole. -/
@[simp] theorem deliverWord_setSync (w : Word) (x : SyncState) (s : State) : deliverWord w (setSync x s) = deliverWord w s := by
  unfold deliverWord
  rw [publishBegin_setSync, publishCommit_setSync, setAcc_setSync, setSync_setSync]

@[simp] theorem deliverWord_setAcc (w a : Word) (s : State) : deliverWord w (setAcc a s) = deliverWord w s := by
  unfold deliverWord
  rw [publishBegin_setAcc, publishCommit_setAcc, setAcc_setAcc]

@[simp] theorem deliverWord_syncState (w : Word) (s : State) : (deliverWord w s).syncState = .seekPreamble 10 := rfl
@[simp] theorem deliverWord_acc (w : Word) (s : State) : (deliverWord w s).acc = w := rfl
@[simp] theorem deliverWord_pubPending (w : Word) (s : State) : (deliverWord w s).pubPending = false := rfl
@[simp] theorem deliverWord_latest (w : Word) (s : State) : (deliverWord w s).latest = otherCell s.latest := rfl

/-- The delivered word is the latest cell's, and its slot is `READY`. -/
@[simp] theorem deliverWord_cell (w : Word) (s : State) : (deliverWord w s).cell (otherCell s.latest) = w := by
  unfold deliverWord
  rw [setSync_cell, setAcc_cell]
  simp [publishBegin_cell]

@[simp] theorem deliverWord_slot (w : Word) (s : State) : (deliverWord w s).slot (otherCell s.latest) = .ready := by
  unfold deliverWord
  rw [setSync_slot, setAcc_slot]
  simp [publishCommit_slot]

theorem feedBits_append (a b : List Bool) (s : State) : feedBits (a ++ b) s = feedBits b (feedBits a s) :=
  List.foldl_append

@[simp] theorem feedBits_nil (s : State) : feedBits [] s = s := rfl
@[simp] theorem feedBits_cons (b : Bool) (l : List Bool) (s : State) : feedBits (b :: l) s = feedBits l (feedBit s b) := rfl

theorem runTicks_append (a b : List Bool) (s : State) : runTicks (a ++ b) s = runTicks b (runTicks a s) :=
  List.foldl_append

@[simp] theorem runTicks_nil (s : State) : runTicks [] s = s := rfl
@[simp] theorem runTicks_cons (level : Bool) (l : List Bool) (s : State) :
    runTicks (level :: l) s = runTicks l (tick level s) := rfl

theorem commitIfPending_of_not {s : State} (h : s.pubPending = false) : commitIfPending s = s := by
  simp [commitIfPending, h]

/-- One bit in `SeekPreamble(k)` (41_synchronizer.md R140). -/
theorem feedBit_seekPreamble {s : State} {k : Nat} (hs : s.syncState = .seekPreamble k) (hp : s.pubPending = false) (b : Bool) :
    feedBit s b = setSync (seekPreambleNext k b) s := by
  unfold feedBit syncStep
  rw [hs]
  exact commitIfPending_of_not hp

/-- One bit in `SeekStartBit` (41_synchronizer.md R141). -/
theorem feedBit_seekStartBit {s : State} (hs : s.syncState = .seekStartBit) (hp : s.pubPending = false) (b : Bool) :
    feedBit s b = if b then s else setSync (.gathering 31) (setAcc 0 s) := by
  unfold feedBit syncStep seekStartBitStep
  rw [hs]
  cases b <;> exact commitIfPending_of_not hp

/-- One bit in `Gathering(n + 1)` (41_synchronizer.md R142). -/
theorem feedBit_gathering {s : State} {n : Nat} (hs : s.syncState = .gathering (n + 1)) (hp : s.pubPending = false) (b : Bool) :
    feedBit s b = setSync (.gathering n) (setAcc (shiftIn s.acc b) s) := by
  unfold feedBit syncStep gatherStep
  rw [hs]
  exact commitIfPending_of_not hp

/-- One bit in `Gathering(0)` completes the frame (41_synchronizer.md R143). -/
theorem feedBit_last {s : State} (hs : s.syncState = .gathering 0) (b : Bool) :
    feedBit s b = deliverWord (shiftIn s.acc b) s := by
  unfold feedBit syncStep gatherStep deliverWord
  rw [hs]
  simp only [if_true, commitIfPending, setSync_pubPending, publishBegin_pubPending]
  rw [publishCommit_setSync, publishBegin_setAcc, publishCommit_setAcc]

/-- A two-instruction short packet is bit for bit a long packet with `I1` as its second address byte (30_encoding.md R102). -/
theorem pktTwoInstr_eq_pktLong (a i1 i2 c : Byte) (pre : Nat) : pktTwoInstr a i1 i2 c pre = pktLong a i1 i2 c pre := rfl

theorem setSync_of_eq {s : State} {x : SyncState} (h : s.syncState = x) : setSync x s = s := by rw [← h, setSync_self]

@[simp] theorem commitIfPending_pubPending (s : State) : (commitIfPending s).pubPending = false := by
  unfold commitIfPending
  split
  · rfl
  · rename_i h
    exact Bool.eq_false_iff.mpr h

/-- A tick makes its due commit first, so it does the same after that commit (40_sampler.md R120). -/
theorem tick_commitIfPending (level : Bool) (s : State) : tick level (commitIfPending s) = tick level s := by
  unfold tick
  rw [commitIfPending_of_not (commitIfPending_pubPending s)]

/-- Further ones while the start bit is sought are padding (41_synchronizer.md R141). -/
theorem feedBits_ones_seekStartBit {s : State} (hs : s.syncState = .seekStartBit) (hp : s.pubPending = false) (m : Nat) :
    feedBits (ones m) s = s := by
  induction m with
  | zero => rfl
  | succ m ih =>
    change feedBits (ones m) (feedBit s true) = s
    rw [feedBit_seekStartBit hs hp, if_pos rfl]
    exact ih

/-- Ones while a preamble is sought count it down to the start-bit search (41_synchronizer.md R140). -/
theorem feedBits_ones_seekPreamble (m : Nat) : ∀ {s : State} {k : Nat},
    s.syncState = .seekPreamble k → 1 ≤ k → s.pubPending = false →
    feedBits (ones m) s = setSync (if m < k then .seekPreamble (k - m) else .seekStartBit) s := by
  induction m with
  | zero =>
    intro s k hs hk _
    rw [if_pos (show 0 < k from hk), Nat.sub_zero, setSync_of_eq hs]
    rfl
  | succ m ih =>
    intro s k hs hk hp
    change feedBits (ones m) (feedBit s true) = _
    rw [feedBit_seekPreamble hs hp]
    unfold seekPreambleNext
    by_cases h : k - 1 = 0
    · obtain rfl : k = 1 := by omega
      simp only [if_true, h]
      rw [feedBits_ones_seekStartBit rfl (by exact hp)]
      simp
    · simp only [if_true, h, if_false]
      rw [ih rfl (by omega) (by exact hp)]
      have e : (m + 1 < k) ↔ (m < k - 1) := by omega
      simp [e, show k - 1 - m = k - (m + 1) by omega]

/-- Bits that do not yet fill a frame are appended to the accumulator (41_synchronizer.md R142). -/
theorem feedBits_gathering_some (bits : List Bool) : ∀ {s : State} {n : Nat},
    s.syncState = .gathering n → s.pubPending = false → bits.length ≤ n →
    feedBits bits s = setSync (.gathering (n - bits.length)) (setAcc (bits.foldl shiftIn s.acc) s) := by
  induction bits with
  | nil =>
    intro s n hs _ _
    exact (setSync_of_eq hs).symm
  | cons b bits ih =>
    intro s n hs hp hl
    obtain ⟨n, rfl⟩ : ∃ m, n = m + 1 := ⟨n - 1, by simp at hl; omega⟩
    rw [feedBits_cons, feedBit_gathering hs hp, ih rfl (by exact hp) (by simpa using hl)]
    simp only [setAcc_setSync, setSync_setSync, setAcc_setAcc, List.length_cons, Nat.add_sub_add_right, List.foldl_cons]
    rfl

/-- Bits that fill the frame exactly deliver it (41_synchronizer.md R143). -/
theorem feedBits_gathering_all {bits : List Bool} {s : State} {n : Nat} (hs : s.syncState = .gathering n)
    (hp : s.pubPending = false) (hl : bits.length = n + 1) :
    feedBits bits s = deliverWord (bits.foldl shiftIn s.acc) s := by
  obtain ⟨l, b, rfl⟩ : ∃ l b, bits = l ++ [b] := by
    rcases List.eq_nil_or_concat bits with h | ⟨l, b, h⟩
    · subst h
      simp at hl
    · exact ⟨l, b, by simpa using h⟩
  have hl' : l.length = n := by simpa using hl
  rw [feedBits_append, feedBits_gathering_some l hs hp (by omega), feedBits_cons, feedBits_nil,
    feedBit_last (by rw [hl', Nat.sub_self]; rfl), deliverWord_setSync, deliverWord_setAcc, List.foldl_append]
  rfl

/-- The accumulator after any bits: they are its low end, first bit highest, above them what it held
(41_synchronizer.md R142). -/
theorem getLsbD_foldl_shiftIn (bits : List Bool) : ∀ (a : Word) (j : Nat), j < 32 →
    (bits.foldl shiftIn a).getLsbD j =
      if j < bits.length then bits.getD (bits.length - 1 - j) false else a.getLsbD (j - bits.length) := by
  induction bits using List.reverseRecOn with
  | nil =>
    intro a j _
    simp
  | append_singleton l b ih =>
    intro a j hj
    rw [List.foldl_append]
    simp only [List.foldl_cons, List.foldl_nil]
    rw [show ∀ x : Word, shiftIn x b = (x <<< 1) ||| (BitVec.ofBool b).setWidth 32 from fun _ => rfl,
      BitVec.getLsbD_or, BitVec.getLsbD_shiftLeft, BitVec.getLsbD_setWidth]
    cases j with
    | zero => simp
    | succ j =>
      have hb : (BitVec.ofBool b).getLsbD (j + 1) = false := BitVec.getLsbD_of_ge _ _ (by omega)
      simp only [hb, hj, decide_true, Bool.true_and, Bool.and_false, Bool.or_false, show ¬ (j + 1 < 1) by omega,
        decide_false, Bool.not_false, show j + 1 - 1 = j by omega]
      rw [ih a j (by omega)]
      simp
      split
      · rw [List.getElem_append_left (by omega), List.getElem?_eq_getElem (by omega)]
        simp
        congr 1
        omega
      · rfl

end Sys2Proof.Machine
end

