-- ==== Sys2Proof/Tests/Slice0.lean ====
section
/-! SUPPORT. Small tests: the parameter checks refuse what they must, words written out bit by bit from 30_encoding.md decode to
what they stand for, single steps give what 95_test_vectors.md says, and a witness for every statement with hypotheses. -/

namespace Sys2Proof.Tests

set_option Elab.async false

open Sys2Proof Sys2Proof.Machine

/-! ### Helpers -/

/-- A small legal instance: target 3 (short form), two sample ticks, stuck after four. -/
def small : Params :=
  { targetAddr := 3, tTick := ⟨2, by decide⟩, tSampleTicks := 2, tStuckTicks := 4, checksumGate := true }

/-- The same instance with target 200 (long form). -/
def smallLong : Params := { small with targetAddr := 200 }

/-- The state after reset with this schedule. -/
def fresh (l : List AgentStep) : State := { State.resetFor small with schedule := l }

/-- A decoder about to apply this word, with every button on and this schedule. -/
def applying (w : Word) (l : List AgentStep) : State :=
  { fresh l with decPhase := .apply, busy := true, decWord := w, fbt := 0x1FFE }

/-- A decoder that may start on this word, in cell 1. -/
def ready (w : Word) (l : List AgentStep) : State := { fresh l with cell1 := w, slot1 := .ready, latest := 1 }

/-- A halted sampler with the fault flag set. -/
def halted (l : List AgentStep) : State := { fresh l with smpState := .halted, highRun := 4, stuckFault := true }

/-- What a next state satisfies; false where there is none. -/
def nextIs (o : Host.Outcome State Fault Refusal) (f : State → Bool) : Bool :=
  match o with
  | .next t => f t
  | .fault _ => false
  | .refused _ => false

/-- The reason of a refusal, if it is one. -/
def refusal (o : Host.Outcome State Fault Refusal) : Option Refusal :=
  match o with
  | .next _ => none
  | .fault _ => none
  | .refused r => some r

/-- The broken clause a step faults on, if it does. -/
def faultClause (o : Host.Outcome State Fault Refusal) : Option Nat :=
  match o with
  | .next _ => none
  | .fault (.invariantBroken n) => some n
  | .refused _ => none

/-- The table after executing an instruction on the table 0x1FFE. -/
def tableAfter (i : Instr) (t : Table) : Option Table :=
  match exec i { fresh [] with fbt := t } with
  | .next u => some u.fbt
  | .fault _ => none
  | .refused _ => none

/-! ### Well-formed instances (00_scope.md R8): an ill-formed one for each check -/

theorem test_wf_small : small.wf = true := by decide
theorem test_wf_config : Config.params.wf = true := by decide
/-- T_TICK may be any positive duration (00_scope.md R8): a third of a microsecond too. -/
theorem test_wf_takes_fractional_tick :
    Params.wf { small with tTick := ⟨1 / 3, by norm_num⟩ } = true := by decide

theorem test_wf_refuses_target_zero : Params.wf { small with targetAddr := 0 } = false := by decide
theorem test_wf_refuses_target_above : Params.wf { small with targetAddr := 10240 } = false := by decide
theorem test_wf_takes_target_top : Params.wf { small with targetAddr := 10239 } = true := by decide
theorem test_wf_refuses_no_sample_ticks : Params.wf { small with tSampleTicks := 0 } = false := by decide
theorem test_wf_refuses_few_stuck_ticks : Params.wf { small with tStuckTicks := 3 } = false := by decide

/-! ### Decoding: bytes written out from 30_encoding.md R107 and opcode_table.json (selector, payload 0101) -/

theorem test_decode_sel0000 : decode 0b00000101 = .sel0000 0b0101 ∧ encode (.sel0000 0b0101) = 0b00000101 := by decide
theorem test_decode_sel0001 : decode 0b00010101 = .sel0001 0b0101 ∧ encode (.sel0001 0b0101) = 0b00010101 := by decide
theorem test_decode_sel0010 : decode 0b00100101 = .sel0010 0b0101 ∧ encode (.sel0010 0b0101) = 0b00100101 := by decide
theorem test_decode_sel0011 : decode 0b00110101 = .sel0011 0b0101 ∧ encode (.sel0011 0b0101) = 0b00110101 := by decide
theorem test_decode_sel0100 : decode 0b01000101 = .sel0100 0b0101 ∧ encode (.sel0100 0b0101) = 0b01000101 := by decide
theorem test_decode_sel0101 : decode 0b01010101 = .sel0101 0b0101 ∧ encode (.sel0101 0b0101) = 0b01010101 := by decide
theorem test_decode_sel0110 : decode 0b01100101 = .sel0110 0b0101 ∧ encode (.sel0110 0b0101) = 0b01100101 := by decide
theorem test_decode_sel0111 : decode 0b01110101 = .sel0111 0b0101 ∧ encode (.sel0111 0b0101) = 0b01110101 := by decide
theorem test_decode_fgF1F4A : decode 0b10000101 = .fgF1F4A 0b0101 ∧ encode (.fgF1F4A 0b0101) = 0b10000101 := by decide
theorem test_decode_fgF1F4B : decode 0b10010101 = .fgF1F4B 0b0101 ∧ encode (.fgF1F4B 0b0101) = 0b10010101 := by decide
theorem test_decode_fgF9F12 : decode 0b10100101 = .fgF9F12 0b0101 ∧ encode (.fgF9F12 0b0101) = 0b10100101 := by decide
theorem test_decode_fgF5F8 : decode 0b10110101 = .fgF5F8 0b0101 ∧ encode (.fgF5F8 0b0101) = 0b10110101 := by decide
theorem test_decode_sel1100 : decode 0b11000101 = .sel1100 0b0101 ∧ encode (.sel1100 0b0101) = 0b11000101 := by decide
theorem test_decode_sel1101 : decode 0b11010101 = .sel1101 0b0101 ∧ encode (.sel1101 0b0101) = 0b11010101 := by decide
theorem test_decode_sel1110 : decode 0b11100101 = .sel1110 0b0101 ∧ encode (.sel1110 0b0101) = 0b11100101 := by decide
theorem test_decode_sel1111 : decode 0b11110101 = .sel1111 0b0101 ∧ encode (.sel1111 0b0101) = 0b11110101 := by decide

/-- V32: address 82, instruction 0xB5, written out by position (30_encoding.md R93). -/
theorem test_short_word_82 :
    shortAddr 0b01010010010110101011100111111111 = 82 ∧
      decode (shortInstr 0b01010010010110101011100111111111) = .fgF5F8 5 := by decide

/-- V33: address 200, instruction 0x9F, written out by position (30_encoding.md R94). -/
theorem test_long_word_200 :
    longAddr 0b11000000011001000010011111010010 = 200 ∧
      decode (longInstr 0b11000000011001000010011111010010) = .fgF1F4B 15 := by decide

/-- A byte is eight bits and no other length is an instruction (opcode_table.json). -/
theorem test_decode_length : decodeTableWord 8 0x85 = some (.fgF1F4A 5) ∧ decodeTableWord 16 0x85 = none ∧
    decodeTableWord 8 0x185 = none := by decide

/-! ### Executing each instruction on the tables 0x1FFE and 0x0000 with payload 5 (95_test_vectors.md V60 to V75), and as one step
on the vector's word -/

theorem test_exec_sel0000 : tableAfter (.sel0000 5) 0x1FFE = some 0x1FFE ∧ tableAfter (.sel0000 5) 0 = some 0x0000 := by decide
theorem test_exec_sel0001 : tableAfter (.sel0001 5) 0x1FFE = some 0x1FFE ∧ tableAfter (.sel0001 5) 0 = some 0x0000 := by decide
theorem test_exec_sel0010 : tableAfter (.sel0010 5) 0x1FFE = some 0x1FFE ∧ tableAfter (.sel0010 5) 0 = some 0x0000 := by decide
theorem test_exec_sel0011 : tableAfter (.sel0011 5) 0x1FFE = some 0x1FFE ∧ tableAfter (.sel0011 5) 0 = some 0x0000 := by decide
theorem test_exec_sel0100 : tableAfter (.sel0100 5) 0x1FFE = some 0x1FFE ∧ tableAfter (.sel0100 5) 0 = some 0x0000 := by decide
theorem test_exec_sel0101 : tableAfter (.sel0101 5) 0x1FFE = some 0x1FFE ∧ tableAfter (.sel0101 5) 0 = some 0x0000 := by decide
theorem test_exec_sel0110 : tableAfter (.sel0110 5) 0x1FFE = some 0x1FFE ∧ tableAfter (.sel0110 5) 0 = some 0x0000 := by decide
theorem test_exec_sel0111 : tableAfter (.sel0111 5) 0x1FFE = some 0x1FFE ∧ tableAfter (.sel0111 5) 0 = some 0x0000 := by decide
theorem test_exec_fgF1F4A : tableAfter (.fgF1F4A 5) 0x1FFE = some 0x1FEA ∧ tableAfter (.fgF1F4A 5) 0 = some 0x000A := by decide
theorem test_exec_fgF1F4B : tableAfter (.fgF1F4B 5) 0x1FFE = some 0x1FEA ∧ tableAfter (.fgF1F4B 5) 0 = some 0x000A := by decide
theorem test_exec_fgF9F12 : tableAfter (.fgF9F12 5) 0x1FFE = some 0x0BFE ∧ tableAfter (.fgF9F12 5) 0 = some 0x0A00 := by decide
theorem test_exec_fgF5F8 : tableAfter (.fgF5F8 5) 0x1FFE = some 0x1EBE ∧ tableAfter (.fgF5F8 5) 0 = some 0x00A0 := by decide
theorem test_exec_sel1100 : tableAfter (.sel1100 5) 0x1FFE = some 0x1FFE ∧ tableAfter (.sel1100 5) 0 = some 0x0000 := by decide
theorem test_exec_sel1101 : tableAfter (.sel1101 5) 0x1FFE = some 0x1FFE ∧ tableAfter (.sel1101 5) 0 = some 0x0000 := by decide
theorem test_exec_sel1110 : tableAfter (.sel1110 5) 0x1FFE = some 0x1FFE ∧ tableAfter (.sel1110 5) 0 = some 0x0000 := by decide
theorem test_exec_sel1111 : tableAfter (.sel1111 5) 0x1FFE = some 0x1FFE ∧ tableAfter (.sel1111 5) 0 = some 0x0000 := by decide

theorem test_step_sel0000 : nextIs (step (applying 0x030281BF [.decApply])) (fun t => t.fbt == 0x1FFE && t.decPhase == .finish) = true := by
  decide
theorem test_step_sel0001 : nextIs (step (applying 0x030A85BF [.decApply])) (fun t => t.fbt == 0x1FFE && t.decPhase == .finish) = true := by
  decide
theorem test_step_sel0010 : nextIs (step (applying 0x031289BF [.decApply])) (fun t => t.fbt == 0x1FFE && t.decPhase == .finish) = true := by
  decide
theorem test_step_sel0011 : nextIs (step (applying 0x031A8DBF [.decApply])) (fun t => t.fbt == 0x1FFE && t.decPhase == .finish) = true := by
  decide
theorem test_step_sel0100 : nextIs (step (applying 0x032291BF [.decApply])) (fun t => t.fbt == 0x1FFE && t.decPhase == .finish) = true := by
  decide
theorem test_step_sel0101 : nextIs (step (applying 0x032A95BF [.decApply])) (fun t => t.fbt == 0x1FFE && t.decPhase == .finish) = true := by
  decide
theorem test_step_sel0110 : nextIs (step (applying 0x033299BF [.decApply])) (fun t => t.fbt == 0x1FFE && t.decPhase == .finish) = true := by
  decide
theorem test_step_sel0111 : nextIs (step (applying 0x033A9DBF [.decApply])) (fun t => t.fbt == 0x1FFE && t.decPhase == .finish) = true := by
  decide
theorem test_step_fgF1F4A : nextIs (step (applying 0x0342A1BF [.decApply])) (fun t => t.fbt == 0x1FEA && t.decPhase == .finish) = true := by
  decide
theorem test_step_fgF1F4B : nextIs (step (applying 0x034AA5BF [.decApply])) (fun t => t.fbt == 0x1FEA && t.decPhase == .finish) = true := by
  decide
theorem test_step_fgF9F12 : nextIs (step (applying 0x0352A9BF [.decApply])) (fun t => t.fbt == 0x0BFE && t.decPhase == .finish) = true := by
  decide
theorem test_step_fgF5F8 : nextIs (step (applying 0x035AADBF [.decApply])) (fun t => t.fbt == 0x1EBE && t.decPhase == .finish) = true := by
  decide
theorem test_step_sel1100 : nextIs (step (applying 0x0362B1BF [.decApply])) (fun t => t.fbt == 0x1FFE && t.decPhase == .finish) = true := by
  decide
theorem test_step_sel1101 : nextIs (step (applying 0x036AB5BF [.decApply])) (fun t => t.fbt == 0x1FFE && t.decPhase == .finish) = true := by
  decide
theorem test_step_sel1110 : nextIs (step (applying 0x0372B9BF [.decApply])) (fun t => t.fbt == 0x1FFE && t.decPhase == .finish) = true := by
  decide
theorem test_step_sel1111 : nextIs (step (applying 0x037ABDBF [.decApply])) (fun t => t.fbt == 0x1FFE && t.decPhase == .finish) = true := by
  decide

/-! ### The other steps -/

/-- V59, V57: F9..F12 in the short and the long form. -/
theorem test_decode_table_vectors :
    decodeTable { small with targetAddr := 82 } 0x5254BEFF 0 = 0x1200 ∧
      decodeTable { small with targetAddr := 1000 } 0xC37428D1 0x1FFE = 0x07FE := by decide

/-- V48, V49, V50: a wrong checksum, a set top address bit, a bad separator. -/
theorem test_decode_corner_vectors :
    decodeTable small 0x0347803F 0 = 0 ∧ decodeTable { small with checksumGate := false } 0x0347803F 0 = 0x001E ∧
      decodeTable small 0x834281BF 0 = 0x000A ∧ decodeTable small 0x03C2A1BF 0 = 0x000A := by decide

/-- V41 to V46: the buffer sequence of the vectors. -/
theorem test_buffer_sequence :
    let b := publishBegin 0x22222222 (publishCommit (publishBegin 0x11111111 (fresh [])))
    b.cell0 = 0x22222222 ∧ b.slot0 = .producing ∧ b.slot1 = .ready ∧ b.latest = 1 ∧ b.pubPending = true := by decide

/-- V33: a long packet leaves `P(6)`. -/
theorem test_long_packet_leaves_credit :
    (feedBits (pktLong 0xC0 0xC8 0x9F 0x97 10) (fresh [])).syncState = .seekPreamble 6 ∧
      (feedBits (pktLong 0xC0 0xC8 0x9F 0x97 10) (fresh [])).cell1 = 0xC06427D2 := by decide +kernel

/-- V77, V78: button reads. -/
theorem test_read_button :
    readButton 12 (fresh []) = some false ∧ readButton 5 { fresh [] with fbt := 0x00A0 } = some true ∧
      readButton 6 { fresh [] with fbt := 0x00A0 } = some false ∧ readButton 13 (fresh []) = none := by decide

/-- A step from reset with nothing placed asks the free value, and a placed byte runs next (log 9). -/
theorem test_placed_byte_runs :
    nextIs (step (State.reset.withFetchWord 8 0x85)) (fun t => t.fbt == 0x000A) = true := by decide

theorem test_placed_length : State.reset.withFetchWord 16 0x85 = State.reset := by decide

/-! ### A witness for every statement with hypotheses: states and operands that meet all of them, one for each clause -/

theorem test_witness_SeparatorsAreNotRead :
    (∀ j, j < 32 → j ≠ 23 → j ≠ 14 → (small.shortMode = true → 5 < j) → (small.shortMode = false → j ≠ 5) →
      (0x0342A1BF : Word).getLsbD j = (0x03C2E180 : Word).getLsbD j) ∧
    (∀ j, j < 32 → j ≠ 23 → j ≠ 14 → (smallLong.shortMode = true → 5 < j) → (smallLong.shortMode = false → j ≠ 5) →
      (0xC06427D2 : Word).getLsbD j = (0xC0E467F2 : Word).getLsbD j) :=
  ⟨fun j hj => by interval_cases j <;> decide, fun j hj => by interval_cases j <;> decide⟩

theorem test_witness_SecondInstructionByte_discarded :
    small.shortMode = true ∧ small.checksumGate = true ∧ (3 : Byte) ^^^ 0x85 ^^^ 0x9F ≠ 0 := by decide

theorem test_witness_SecondInstructionByte_dispatched :
    small.shortMode = true ∧ (3 : Byte) ^^^ 0x85 ^^^ 0x86 = 0 ∧ ((3 : Byte).extractLsb' 0 7).setWidth 14 = small.targetAddr := by
  decide

/-- R202's example: the bits of `A = 0x03`, `I1 = 0x85`, `I2 = 0xB3`, `C = 0x35` give the word `0x0342ACC6`. -/
theorem test_witness_SecondInstructionByte_gathered :
    (fresh []).syncState = .seekPreamble 10 ∧ (fresh []).pubPending = false ∧
      (feedBits (pktTwoInstr 0x03 0x85 0xB3 0x35 10) (fresh [])).cell1 = 0x0342ACC6 ∧
      (feedBits (pktTwoInstr 0x03 0x85 0xB3 0x35 10) { fresh [] with syncState := .seekStartBit }).cell1 = 0x0342ACC6 := by
  decide +kernel

theorem test_witness_LongAddressRoundTrip :
    (fresh []).syncState = .seekPreamble 10 ∧ (fresh []).pubPending = false ∧ 128 ≤ (128 : Address).toNat ∧
      (10239 : Address).toNat ≤ 10239 ∧ longByte1 200 = longByte1 200 ∧ longByte2 200 = longByte2 200 := by decide

theorem test_witness_MergeGroupLaws :
    baseF1F4 ∈ [baseF1F4, baseF5F8, baseF9F12] ∧ baseF9F12 ∈ [baseF1F4, baseF5F8, baseF9F12] ∧ baseF1F4 ≠ baseF9F12 := by decide

theorem test_witness_StepRunsTheDecodedInstruction :
    (applying 0x0342A1BF [.decApply]).Running ∧ (applying 0x0342A1BF [.decApply]).nextStep = .decApply ∧
      (applying 0x0342A1BF [.decApply]).decPhase = .apply ∧ accepts small 0x0342A1BF = true ∧
      decode (instrField small 0x0342A1BF) = .fgF1F4A 5 := by decide

theorem test_witness_PlacedInstructionRunsNext :
    (fresh []).params.wf = true ∧ (fresh []).Inv ∧ decodeTableWord 8 0xB6 = some (.fgF5F8 6) := by decide

theorem test_witness_InstructionExamples :
    small.targetAddr = 3 ∧ ({ small with targetAddr := 82 } : Params).targetAddr = 82 ∧
      ({ small with targetAddr := 127 } : Params).targetAddr = 127 ∧
      (0b1111 : Selector) ∈ [0b0000, 0b0001, 0b0010, 0b1100, 0b1101, 0b1110, 0b1111] ∧
      (0b0011 : Selector) ∈ [0b0011, 0b0100, 0b0101, 0b0110, 0b0111] := by decide

theorem test_witness_ApplyWritesDecode :
    (applying 0x0347803F [.decApply]).Running ∧ (applying 0x0347803F [.decApply]).nextStep = .decApply ∧
      (applying 0x0347803F [.decApply]).decPhase = .apply := by decide

theorem test_witness_StartTakesTheLatestWord :
    (ready 0x0342A1BF [.decStart]).Running ∧ (ready 0x0342A1BF [.decStart]).nextStep = .decStart ∧
      (ready 0x0342A1BF [.decStart]).decPhase = .idle ∧ (ready 0x0342A1BF [.decStart]).slot 1 = .ready ∧
      (ready 0x0342A1BF [.decStart]).latest = 1 := by decide

theorem test_witness_EndClearsTheGuard :
    ({ applying 0 [.decEnd] with decPhase := .finish } : State).Running ∧
      ({ applying 0 [.decEnd] with decPhase := .finish } : State).nextStep = .decEnd := by decide

theorem test_witness_EndClearsTheGuard_reads :
    (applying 0 []).Inv ∧ (applying 0 []).decPhase = .apply ∧ ({ applying 0 [] with decPhase := .finish } : State).Inv := by decide

theorem test_witness_DisabledDecoderStepsChangeNothing_start :
    (fresh [.decStart]).Running ∧ (fresh [.decStart]).slot 0 ≠ .ready ∧ (fresh [.decStart]).latest = 0 := by decide

theorem test_witness_DisabledDecoderStepsChangeNothing_start_busy :
    (applying 0 [.decStart]).Running ∧ (applying 0 [.decStart]).nextStep = .decStart ∧
      (applying 0 [.decStart]).decPhase ≠ .idle := by decide

theorem test_witness_DisabledDecoderStepsChangeNothing_apply :
    (fresh [.decApply]).Running ∧ (fresh [.decApply]).nextStep = .decApply ∧ (fresh [.decApply]).decPhase ≠ .apply := by decide

theorem test_witness_DisabledDecoderStepsChangeNothing_end :
    (fresh [.decEnd]).Running ∧ (fresh [.decEnd]).nextStep = .decEnd ∧ (fresh [.decEnd]).decPhase ≠ .finish := by decide

theorem test_witness_MergeOverwritesItsGroup :
    mergeGroup 0x1FFE 1 0b0101 = 0x1FEA ∧ mergeGroup 0x1FFE 9 0b0101 = 0x0BFE := by decide

theorem test_witness_ChecksumGateDiscards :
    small.checksumGate = true ∧ checksumOk small 0x0347803F = false ∧
      ({ small with checksumGate := false } : Params).checksumGate = false := by decide

theorem test_witness_OnlyTheExactAddressMatches :
    (applying 0x045AAC7F [.decApply]).Running ∧ addrField small 0x045AAC7F = 4 ∧ addrField small 0x0042A17F = 0 ∧
      (applying 0x0042A17F [.decApply]).Running ∧ (applying 0x0042A17F [.decApply]).nextStep = .decApply := by decide

theorem test_witness_DecodedButtonsReadBack :
    let s := ready (small.wordFor (encode (.fgF5F8 9))) [.decStart, .decApply, .decEnd]
    s.Running ∧ s.decPhase = .idle ∧ s.slot s.latest = .ready ∧ s.cell s.latest = s.params.wordFor (encode (.fgF5F8 9)) ∧
      s.schedule = .decStart :: .decApply :: .decEnd :: [] ∧
      (5, Instr.fgF5F8 9) ∈ [(1, .fgF1F4A 9), (1, .fgF1F4B 9), (9, .fgF9F12 9), (5, .fgF5F8 9)] := by decide

theorem test_witness_FirstBitIsMostSignificant :
    ({ fresh [] with syncState := .gathering 31 } : State).pubPending = false ∧ (true :: List.replicate 31 false).length = 32 ∧
      (feedBits (true :: List.replicate 31 false) { fresh [] with syncState := .gathering 31 }).cell1 = 0x80000000 := by decide +kernel

theorem test_witness_TenOnesMakeAPreamble :
    (fresh []).syncState = .seekPreamble 10 ∧ (fresh []).pubPending = false ∧
      (feedBits (ones 9 ++ [false]) (fresh [])).syncState = .seekPreamble 10 ∧
      (feedBits (ones 10 ++ [false]) (fresh [])).syncState = .gathering 31 := by decide

theorem test_witness_SynchronizerAlwaysResynchronises_gathering :
    let s : State := { fresh [] with syncState := .gathering 1 }
    s.pubPending = false ∧ (feedBits [true] s).syncState = .gathering 0 ∧ (feedBits [true, false] s).syncState = .seekPreamble 10 := by
  decide

theorem test_witness_SynchronizerAlwaysResynchronises_seeking :
    SyncState.legal (.seekPreamble 4) = true ∧ SyncState.legal .seekStartBit = true ∧
      (feedBits (ones 10 ++ [false]) { fresh [] with syncState := .seekPreamble 4 }).syncState = .gathering 31 ∧
      (feedBits (ones 10 ++ [false]) { fresh [] with syncState := .seekStartBit }).syncState = .gathering 31 := by decide

theorem test_seeking_is_not_gathering : ∀ n, SyncState.seekStartBit ≠ .gathering n := by
  intro n h
  cases h

theorem test_witness_ShortPacketIsGathered :
    (fresh []).syncState = .seekPreamble 10 ∧ (fresh []).pubPending = false ∧
      (feedBits (pktShort 0x52 0xB5 0xE7 10 ++ ones 5) (fresh [])).cell1 = 0x525AB9FF ∧
      (feedBits (pktShort 0x52 0xB5 0xE7 10 ++ ones 5) { fresh [] with syncState := .seekStartBit }).cell1 = 0x525AB9FF := by decide +kernel

theorem test_witness_LongPacketIsGathered :
    (fresh []).syncState = .seekPreamble 10 ∧ (fresh []).pubPending = false ∧
      (feedBits (pktLong 0xC0 0xC8 0x9F 0x97 10) { fresh [] with syncState := .seekStartBit }).cell1 = 0xC06427D2 := by decide +kernel

theorem test_witness_ShortPacketCostsFivePreambleOnes :
    (feedBits (pktShort 0x52 0xB5 0xE7 10 ++ ones 14 ++ [false]) (fresh [])).syncState = .seekPreamble 10 ∧
      (feedBits (pktShort 0x52 0xB5 0xE7 10 ++ ones 15 ++ [false]) (fresh [])).syncState = .gathering 31 := by decide +kernel

theorem test_witness_LongPacketGivesPreambleCredit_ones :
    (0x97 : Byte).extractLsb' 0 3 = 0b111 ∧
      (feedBits (pktLong 0xC0 0xC8 0x9F 0x97 10 ++ ones 5 ++ [false]) (fresh [])).syncState = .seekPreamble 10 ∧
      (feedBits (pktLong 0xC0 0xC8 0x9F 0x97 10 ++ ones 6 ++ [false]) (fresh [])).syncState = .gathering 31 := by decide +kernel

theorem test_witness_LongPacketGivesPreambleCredit_zero :
    (0x96 : Byte).getLsbD 0 = false ∧
      (feedBits (pktLong 0xC0 0xC8 0x9E 0x96 10 ++ ones 8 ++ [false]) (fresh [])).syncState = .seekPreamble 10 ∧
      (feedBits (pktLong 0xC0 0xC8 0x9E 0x96 10 ++ ones 9 ++ [false]) (fresh [])).syncState = .gathering 31 := by decide +kernel

theorem test_witness_CommitsAreFortyThreeBitsApart :
    (ones 10 ++ [false] ++ ones 31).length ≤ 42 ∧ (feedBits (ones 10 ++ [false] ++ ones 31) (fresh [])).latest = 0 ∧
      (feedBits (ones 10 ++ [false] ++ ones 32) (fresh [])).latest = 1 := by decide +kernel

theorem test_witness_OneSampleDecidesTheBit :
    let s : State := { fresh [] with smpState := .waitRise }
    s.Safe ∧ s.smpState = .waitRise ∧ [false].length + 1 = s.params.tSampleTicks ∧
      sampledBit true (runTicks [true, false] s) = some false ∧ sampledBit false (runTicks [true, false] s) = some true := by decide

theorem test_witness_LevelsDeliverExactlyTheBits :
    let s : State := { fresh [] with smpState := .waitRise, params := { small with tStuckTicks := 5 } }
    s.Safe ∧ s.smpState = .waitRise ∧ s.pubPending = false ∧ levelsFit s.params 2 3 = true ∧ levelsFit s.params 2 4 = true ∧
      levelsFit s.params 2 5 = false ∧ levelsFit s.params 1 3 = false := by decide

theorem test_witness_StuckHighIsDetectedInTime :
    (fresh []).Safe ∧ (fresh []).smpState ≠ .halted ∧ (fresh []).highRun = 0 ∧ (fresh []).params.tStuckTicks = 4 ∧
      (runTicks (List.replicate 3 true) (fresh [])).stuckFault = false ∧
      (runTicks (List.replicate 4 true) (fresh [])).stuckFault = true := by decide

theorem test_witness_HaltedTicksOnlyCommit :
    (halted []).smpState = .halted ∧ runTicks [true, false, true] (halted []) = halted [] := by decide

theorem test_witness_FaultEntryKeepsEverythingElse :
    let s : State := { fresh [.tick true] with highRun := 3 }
    s.Safe ∧ s.rstPin = false ∧ s.restartPin = false ∧ s.nextStep = .tick true ∧ s.smpState ≠ .halted ∧
      s.highRun + 1 = s.params.tStuckTicks := by decide

theorem test_witness_OnlyAHighTickFaults :
    let s : State := { fresh [.tick true] with highRun := 3 }
    nextIs (step s) (fun t => t.stuckFault && t.smpState == .halted && t.highRun == 4) = true ∧ s.stuckFault = false := by decide

theorem test_witness_OnlyAResetClearsTheFault :
    nextIs (step (halted [.driveResets true false])) (fun t => !t.stuckFault) = true ∧
      nextIs (step (halted [.driveResets false true])) (fun t => !t.stuckFault) = true ∧
      nextIs (step { halted [.tick false] with restartPin := true }) (fun t => !t.stuckFault) = true ∧
      nextIs (step { halted [.readStatus] with rstPin := true }) (fun t => !t.stuckFault) = true := by decide

theorem test_witness_ButtonReadAnswers :
    (fresh [.readButton 12]).Running ∧ (fresh [.readButton 12]).nextStep = .readButton 12 ∧
      nextIs (step (fresh [.readButton 12])) (fun t => t.reply == .button (some false)) = true ∧
      nextIs (step (fresh [.readButton 13])) (fun t => t.reply == .button none) = true ∧
      (applying 0 [.readButton 5]).Running ∧
      nextIs (step (applying 0 [.readButton 5])) (fun t => t.reply == .button none) = true := by decide

theorem test_witness_StatusReadAnswers :
    (halted [.readStatus]).Running ∧ nextIs (step (halted [.readStatus])) (fun t => t.reply == .status true) = true ∧
      nextIs (step (fresh [.readStatus])) (fun t => t.reply == .status false) = true := by decide

theorem test_witness_NoValueWhileDecoding :
    (applying 0 []).Inv ∧ (applying 0 []).decPhase ≠ .idle ∧
      ({ applying 0 [] with decPhase := .finish } : State).Inv := by decide

theorem test_witness_FullResetFromAnyState :
    let s : State := { applying 0 [.driveResets true false] with busy := false, slot0 := .ready, slot1 := .ready }
    s.params.wf = true ∧ ¬ s.Inv ∧ s.nextStep = .driveResets true false ∧ nextIs (step s) (fun t => t.fbt == 0) = true := by decide

theorem test_witness_HeldResetTakesNoOtherStep :
    let s : State := { applying 0x0342A1BF [.decApply] with rstPin := true }
    s.params.wf = true ∧ s.rstPin = true ∧ s.nextStep = .decApply ∧ nextIs (step s) (fun t => t.fbt == 0) = true := by decide

theorem test_witness_HeldResetTakesNoOtherStep_read :
    let s : State := { applying 0 [.readButton 5] with rstPin := true }
    s.params.wf = true ∧ s.rstPin = true ∧ s.nextStep = .readButton 5 ∧ nextIs (step s) (fun t => t.reply == .none) = true := by
  decide

theorem test_witness_HeldResetTakesNoOtherStep_release :
    let s : State := { applying 0x0342A1BF [.driveResets false true] with rstPin := true }
    s.params.wf = true ∧ s.rstPin = true ∧ s.nextStep = .driveResets false true ∧
      nextIs (step s) (fun t => t.fbt == 0 && !t.rstPin && t.restartPin) = true := by decide

theorem test_witness_HeldResetTakesNoOtherStep_target :
    let s : State := { applying 0x0342A1BF [.driveTarget 10239] with rstPin := true }
    s.params.wf = true ∧ s.rstPin = true ∧ s.nextStep = .driveTarget 10239 ∧ targetLegal 10239 = true ∧ targetLegal 1 = true ∧
      nextIs (step s) (fun t => t.fbt == 0 && t.params.targetAddr == 10239) = true := by decide

theorem test_witness_RestartResetsTheProducerOnly :
    (halted [.driveResets false true]).Running ∧ ({ halted [.tick true] with restartPin := true } : State).Running ∧
      ({ halted [.driveResets false true] with slot1 := .producing, pubPending := true, pubSlot := 1 } : State).Running ∧
      nextIs (step { halted [.driveResets false true] with slot1 := .producing, pubPending := true, pubSlot := 1 })
        (fun t => t.slot1 == .empty) = true ∧
      (ready 1 [.driveResets false true]).Running ∧
      nextIs (step (ready 1 [.driveResets false true])) (fun t => t.slot1 == .ready) = true :=
  ⟨by decide, by decide, by decide, by decide, by decide, by decide⟩

theorem test_witness_StepKeepsSafe :
    (applying 0x0342A1BF [.decApply]).Safe ∧ nextIs (step (applying 0x0342A1BF [.decApply])) (fun t => t.fbt == 0x1FEA) = true ∧
      (fresh [.tick false]).Safe ∧ nextIs (step (fresh [.tick false])) (fun t => t.smpState == .waitRise) = true :=
  ⟨by decide, by decide, by decide, by decide⟩

theorem test_witness_ResetIsSafe : small.wf = true ∧ smallLong.wf = true := by decide

theorem test_witness_SafeStatesNeverStop :
    (fresh [.driveTarget 4]).Safe ∧ refusal (step (fresh [.driveTarget 4])) = some .targetChangedOutsideReset ∧
      ({ fresh [.driveTarget 0] with rstPin := true } : State).Safe ∧
      refusal (step { fresh [.driveTarget 0] with rstPin := true }) = some .targetAddrOutOfRange ∧
      refusal (step (fresh [.driveTarget 3])) = none :=
  ⟨by decide, by decide, by decide, by decide, by decide⟩

theorem test_witness_BrokenInvariantsAreFaults :
    let s : State := { fresh [.readStatus] with fbt := 1 }
    s.params.wf = true ∧ s.rstPin = false ∧ assertsRst s.nextStep = false ∧ ¬ s.Inv ∧ faultClause (step s) = some 6 := by decide

theorem test_witness_BadInstancesAreRefused :
    refusal (step { fresh [] with params := { small with targetAddr := 0 } }) = some .targetAddrOutOfRange ∧
      refusal (step { fresh [] with params := { small with targetAddr := 10240 } }) = some .targetAddrOutOfRange ∧
      refusal (step { fresh [] with params := { small with tSampleTicks := 0 } }) = some .sampleTicksZero ∧
      refusal (step { fresh [] with params := { small with tStuckTicks := 3 } }) = some .stuckTicksTooSmall ∧
      refusal (step { fresh [.readStatus] with params := { small with targetAddr := 1, tSampleTicks := 1, tStuckTicks := 3 } }) = none := by
  decide

theorem test_witness_TargetChangesOnlyUnderReset :
    nextIs (step { fresh [.driveTarget 10239] with rstPin := true }) (fun t => t.params.targetAddr == 10239) = true := by decide

theorem test_witness_TableChangesOnlyByApplyOrReset :
    nextIs (step (applying 0x0342A1BF [.decApply])) (fun t => t.fbt == 0x1FEA) = true ∧
      nextIs (step (applying 0 [.driveResets true false])) (fun t => t.fbt == 0) = true := by decide

theorem test_witness_AgentsWriteOnlyWhatTheyOwn :
    nextIs (step (fresh [.tick false])) (fun t => t.smpState == .waitRise) = true ∧
      nextIs (step (ready 7 [.decStart])) (fun t => t.slot1 == .empty && t.decWord == 7) = true ∧
      nextIs (step (fresh [.readButton 0])) (fun t => t.reply == .button (some false)) = true := by decide

theorem test_witness_PacketOnTheLineRunsItsInstruction :
    (fresh []).syncState = .seekPreamble 10 ∧ (fresh []).pubPending = false ∧ (fresh []).decPhase = .idle ∧
      nextIs (decApply (decStart (feedBits (packetFor small (encode (.fgF5F8 9)) 10 ++ ones 5) (fresh []))))
        (fun t => t.fbt == 0x0120) = true := by decide +kernel

end Sys2Proof.Tests
end

namespace Sys2Proof.Machine

/-- A parameter problem refuses the step under its own name, before anything else of the state is looked at. -/
theorem step_of_paramProblem {s : State} {r : Refusal} (h : paramProblem s.params = some r) : step s = .refused r := by
  unfold step
  rw [h]

/-- R8's first check: the target. -/
theorem paramProblem_of_target_illegal {p : Params} (h : targetLegal p.targetAddr = false) :
    paramProblem p = some .targetAddrOutOfRange := by
  unfold paramProblem
  rw [if_pos h]

/-- R8's second check, reached only with a legal target. -/
theorem paramProblem_of_sample_illegal {p : Params} (ht : targetLegal p.targetAddr = true) (h : p.sampleLegal = false) :
    paramProblem p = some .sampleTicksZero := by
  unfold paramProblem
  rw [if_neg (by simp [ht]), if_pos h]

/-- R8's third check, reached only once the first two have passed. -/
theorem paramProblem_of_stuck_illegal {p : Params} (ht : targetLegal p.targetAddr = true) (hs : p.sampleLegal = true)
    (h : p.stuckLegal = false) : paramProblem p = some .stuckTicksTooSmall := by
  unfold paramProblem
  rw [if_neg (by simp [ht]), if_neg (by simp [hs]), if_pos h]

/-- Settles O54: each clause fails one check of R8 with the checks before it passed. -/
theorem badInstancesAreRefused : Obligations.BadInstancesAreRefused := by
  intro s
  refine ⟨fun hbad => ?target, fun hmin hmax => ⟨fun hzero => ?sample, fun hone hfew => ?stuck⟩⟩
  case target =>
    have ht : targetLegal s.params.targetAddr = false := by
      rw [← Bool.not_eq_true, targetLegal_iff]
      omega
    exact step_of_paramProblem (paramProblem_of_target_illegal ht)
  case sample =>
    have hs : s.params.sampleLegal = false := by
      rw [← Bool.not_eq_true, sampleLegal_iff]
      omega
    exact step_of_paramProblem (paramProblem_of_sample_illegal ((targetLegal_iff _).mpr ⟨hmin, hmax⟩) hs)
  case stuck =>
    have hk : s.params.stuckLegal = false := by
      rw [← Bool.not_eq_true, stuckLegal_iff]
      omega
    exact step_of_paramProblem (paramProblem_of_stuck_illegal ((targetLegal_iff _).mpr ⟨hmin, hmax⟩)
      ((sampleLegal_iff _).mpr hone) hk)

end Sys2Proof.Machine

namespace Sys2Proof.Machine

/-! ### A safe state, sorted by the part of the core that each clause of 10_state.md R40 and each range speaks of -/

/-- R40 (1) to (3): what the two slots, `latest` and the pending record say of each other. -/
abbrev State.BufferSafe (s : State) : Prop := s.latestNotProducing ∧ s.otherNotReady ∧ s.pendingIsProducing

/-- R40 (5) and (6): the guard follows the decoder's phase, and F0 is false. -/
abbrev State.DecoderSafe (s : State) : Prop := s.busyWhileDecoding ∧ s.f0False

/-- R24 and R25: the synchronizer's state is legal and the accumulator fits it. -/
abbrev State.SyncSafe (s : State) : Prop := s.syncState.legal = true ∧ s.accFits = true

/-- R40 (7), R21 and R22: the countdown and the high run, in each state of the sampler. -/
def State.CountersSafe (s : State) : Prop :=
  match s.smpState with
  | .waitFall => s.smpCount = 0 ∧ s.highRun < s.params.tStuckTicks
  | .waitRise => s.smpCount = 0 ∧ s.highRun = 0
  | .timing =>
    1 ≤ s.smpCount ∧ s.smpCount ≤ s.params.tSampleTicks ∧ s.highRun + s.smpCount ≤ s.params.tSampleTicks + 1
  | .halted => s.smpCount = 0 ∧ s.highRun = s.params.tStuckTicks

/-- The counters once a sample has moved the sampler, with its stuck-high test still to come: as `CountersSafe`, but in
`WAIT_FALL` the high run may be full (40_sampler.md R126), and no sample halts the sampler by itself. -/
def State.CountersMoved (s : State) : Prop :=
  match s.smpState with
  | .waitFall => s.smpCount = 0 ∧ s.highRun ≤ s.params.tStuckTicks
  | .waitRise => s.smpCount = 0 ∧ s.highRun = 0
  | .timing =>
    1 ≤ s.smpCount ∧ s.smpCount ≤ s.params.tSampleTicks ∧ s.highRun + s.smpCount ≤ s.params.tSampleTicks + 1
  | .halted => False

/-- R40 (4) follows from R40 (2): one of the two slots is not the latest one's. -/
theorem atMostOneReady_of_otherNotReady {s : State} (h : s.otherNotReady) : s.atMostOneReady := by
  rintro ⟨h0, h1⟩
  rcases cellIndex_cases s.latest with hl | hl
  · exact h (by rw [hl]; exact h1)
  · exact h (by rw [hl]; exact h0)

/-- The sampler's clause R40 (7) and its ranges, told state by state. -/
theorem countersSafe_iff {s : State} (hw : s.params.wf = true) :
    s.CountersSafe ↔ s.countInWindow ∧ s.smpCount ≤ s.params.tSampleTicks ∧ s.highRun ≤ s.params.tStuckTicks ∧
      s.samplerFits := by
  obtain ⟨-, hsample, hstuck⟩ := (wf_iff _).mp hw
  unfold State.CountersSafe State.countInWindow State.samplerFits
  cases s.smpState <;> simp <;> omega

/-- A safe state has legal parameters, and its buffer, decoder, synchronizer, fault flag and counters are safe. -/
theorem safe_iff {s : State} :
    s.Safe ↔ s.params.wf = true ∧ s.BufferSafe ∧ s.DecoderSafe ∧ s.SyncSafe ∧ s.faultWhileHalted ∧ s.CountersSafe := by
  constructor
  · rintro ⟨hw, ⟨h1, h2, h3, -, h5, h6, h7, h8⟩, hcount, hrun, hsync, hacc, hfits⟩
    exact ⟨hw, ⟨h1, h2, h3⟩, ⟨h5, h6⟩, ⟨hsync, hacc⟩, h8, (countersSafe_iff hw).mpr ⟨h7, hcount, hrun, hfits⟩⟩
  · rintro ⟨hw, ⟨h1, h2, h3⟩, ⟨h5, h6⟩, ⟨hsync, hacc⟩, h8, hc⟩
    obtain ⟨h7, hcount, hrun, hfits⟩ := (countersSafe_iff hw).mp hc
    exact ⟨hw, ⟨h1, h2, h3, atMostOneReady_of_otherNotReady h2, h5, h6, h7, h8⟩, hcount, hrun, hsync, hacc, hfits⟩

/-! Each part reads its own fields only: an operation that keeps those keeps the part. -/

theorem State.BufferSafe.of_eq {s t : State} (h : s.BufferSafe) (h0 : t.slot0 = s.slot0 := by simp)
    (h1 : t.slot1 = s.slot1 := by simp) (hl : t.latest = s.latest := by simp)
    (hp : t.pubPending = s.pubPending := by simp) (hs : t.pubSlot = s.pubSlot := by simp) : t.BufferSafe := by
  unfold State.BufferSafe State.latestNotProducing State.otherNotReady State.pendingIsProducing State.slot
  rw [h0, h1, hl, hp, hs]
  exact h

theorem State.DecoderSafe.of_eq {s t : State} (h : s.DecoderSafe) (hp : t.decPhase = s.decPhase := by simp)
    (hb : t.busy = s.busy := by simp) (ht : t.fbt = s.fbt := by simp) : t.DecoderSafe := by
  unfold State.DecoderSafe State.busyWhileDecoding State.f0False
  rw [hp, hb, ht]
  exact h

theorem State.SyncSafe.of_eq {s t : State} (h : s.SyncSafe) (hs : t.syncState = s.syncState := by simp)
    (ha : t.acc = s.acc := by simp) : t.SyncSafe := by
  unfold State.SyncSafe State.accFits
  rw [hs, ha]
  exact h

theorem State.faultWhileHalted.of_eq {s t : State} (h : s.faultWhileHalted) (hf : t.stuckFault = s.stuckFault := by simp)
    (hs : t.smpState = s.smpState := by simp) : t.faultWhileHalted := by
  unfold State.faultWhileHalted
  rw [hf, hs]
  exact h

theorem State.CountersSafe.of_eq {s t : State} (h : s.CountersSafe) (hp : t.params = s.params := by simp)
    (hs : t.smpState = s.smpState := by simp) (hc : t.smpCount = s.smpCount := by simp)
    (hr : t.highRun = s.highRun := by simp) : t.CountersSafe := by
  unfold State.CountersSafe
  rw [hp, hs, hc, hr]
  exact h

theorem State.CountersMoved.of_eq {s t : State} (h : s.CountersMoved) (hp : t.params = s.params := by simp)
    (hs : t.smpState = s.smpState := by simp) (hc : t.smpCount = s.smpCount := by simp)
    (hr : t.highRun = s.highRun := by simp) : t.CountersMoved := by
  unfold State.CountersMoved
  rw [hp, hs, hc, hr]
  exact h

/-! ### The full reset -/

/-- The reset table with legal parameters meets each part: both slots are `EMPTY` and no high sample has been counted. -/
theorem resetFor_safe {p : Params} (h : p.wf = true) : (State.resetFor p).Safe := by
  obtain ⟨-, hsample, hstuck⟩ := (wf_iff p).mp h
  have hrun : 0 < p.tStuckTicks := by omega
  refine safe_iff.mpr ⟨h, ?buffer, ?decoder, ?sync, ?flag, rfl, hrun⟩
  case buffer => exact ⟨nofun, nofun, ⟨nofun, nofun⟩, nofun⟩
  case decoder => exact ⟨⟨nofun, nofun⟩, BitVec.getLsbD_zero⟩
  case sync => exact ⟨rfl, rfl⟩
  case flag => exact ⟨nofun, nofun⟩

/-- The ports, the schedule and the draws, which a full reset keeps, are no part of a safe state. -/
theorem fullReset_safe {s : State} (h : s.params.wf = true) : (fullReset s).Safe := resetFor_safe h

/-- Settles O51: the reset table is safe for all legal parameters, and `Config.params` are legal. -/
theorem resetIsSafe : Obligations.ResetIsSafe :=
  ⟨fun _ h => resetFor_safe h, resetFor_safe (by decide)⟩

/-- An instant of the full reset is the reset, with the parameters as they are or with a legal target address driven. -/
theorem resetInstant_next {a : AgentStep} {s t : State} (h : resetInstant a s = .next t) :
    ∃ u, t = fullReset u ∧
      (u.params = s.params ∨ ∃ addr, targetLegal addr = true ∧ u.params = { s.params with targetAddr := addr }) := by
  cases a with
  | driveTarget addr =>
    simp only [resetInstant] at h
    split_ifs at h with ha
    cases h
    exact ⟨setTarget addr s, rfl, .inr ⟨addr, ha, rfl⟩⟩
  | driveResets rst smpRestart =>
    cases h
    exact ⟨setPins rst smpRestart s, rfl, .inl rfl⟩
  | tick | decStart | decApply | decEnd | readButton | readStatus =>
    cases h
    exact ⟨s, rfl, .inl rfl⟩

theorem wf_setTargetAddr {p : Params} {addr : Address} (h : p.wf = true) (ha : targetLegal addr = true) :
    ({ p with targetAddr := addr } : Params).wf = true := by
  rw [wf_iff] at h ⊢
  exact ⟨(targetLegal_iff addr).mp ha, h.2⟩

theorem resetInstant_safe {a : AgentStep} {s t : State} (hw : s.params.wf = true) (h : resetInstant a s = .next t) : t.Safe := by
  obtain ⟨u, rfl, hu | ⟨addr, ha, hu⟩⟩ := resetInstant_next h
  · exact fullReset_safe (hu ▸ hw)
  · exact fullReset_safe (hu ▸ wf_setTargetAddr hw ha)

/-! ### The packet buffer -/

theorem publishBegin_bufferSafe {s : State} (w : Word) (h : s.BufferSafe) : (publishBegin w s).BufferSafe := by
  obtain ⟨h1, -, -⟩ := h
  refine ⟨?_, ?_, ?_, fun _ => rfl⟩ <;> simp [publishBegin_slot, h1]

/-- The slot that a commit makes the latest is the other one, so the old latest slot is left `EMPTY`. -/
theorem publishCommit_bufferSafe {s : State} (h : s.BufferSafe) (hp : s.pubPending = true) : (publishCommit s).BufferSafe := by
  obtain ⟨h1, -, -, h3⟩ := h
  have hslot : s.pubSlot = otherCell s.latest := h3 hp
  have hold : (publishCommit s).slot s.latest = .empty := by
    rw [publishCommit_slot, hslot, if_neg (ne_otherCell _)]
    cases hs : s.slot s.latest with
    | empty => rfl
    | producing => exact absurd hs h1
    | ready => rfl
  refine ⟨?_, ?_, ?_, ?_⟩ <;> simp [hslot, hold, publishCommit_slot]

theorem commitIfPending_bufferSafe {s : State} (h : s.BufferSafe) : (commitIfPending s).BufferSafe := by
  unfold commitIfPending
  split
  next hp => exact publishCommit_bufferSafe h hp
  next => exact h

theorem takeLatest_bufferSafe {s : State} (h : s.BufferSafe) : (s.setSlot s.latest .empty).BufferSafe := by
  obtain ⟨-, h2, h3, hs⟩ := h
  refine ⟨?_, ?_, ?_, hs⟩ <;> simp [slot_setSlot, h2, h3]

theorem abandonPublish_slot (s : State) (j : CellIndex) :
    (abandonPublish s).slot j = if s.pubPending = true ∧ j = s.pubSlot then .empty else s.slot j := by
  unfold abandonPublish
  split
  next hp =>
    simp only [hp, true_and]
    exact slot_setSlot s s.pubSlot j .empty
  next hp => simp [hp]

@[simp] theorem abandonPublish_pubPending (s : State) : (abandonPublish s).pubPending = false := by
  unfold abandonPublish
  split
  next => rfl
  next hp => exact Bool.eq_false_iff.mpr hp

/-- Only the pending slot can be `PRODUCING`, and an abandoned publication leaves it `EMPTY`. -/
theorem abandonPublish_bufferSafe {s : State} (h : s.BufferSafe) : (abandonPublish s).BufferSafe := by
  cases hp : s.pubPending with
  | false => simpa [abandonPublish, hp] using h
  | true =>
    obtain ⟨h1, -, -, hs⟩ := h
    refine ⟨?_, ?_, ?_, ?_⟩ <;> simp [abandonPublish_slot, hp, hs hp, h1]

/-! ### The synchronizer -/

/-- What one bit does in each state of the synchronizer (41_synchronizer.md R140 to R143). -/
theorem syncStep_cases (b : Bool) (s : State) :
    (∃ k, s.syncState = .seekPreamble k ∧ syncStep b s = setSync (seekPreambleNext k b) s) ∨
    (s.syncState = .seekStartBit ∧ syncStep b s = if b then s else setSync (.gathering 31) (setAcc 0 s)) ∨
    (∃ n, s.syncState = .gathering (n + 1) ∧ syncStep b s = setSync (.gathering n) (setAcc (shiftIn s.acc b) s)) ∨
    (s.syncState = .gathering 0 ∧
      syncStep b s = setSync (.seekPreamble 10) (publishBegin (shiftIn s.acc b) (setAcc (shiftIn s.acc b) s))) := by
  unfold syncStep
  cases hs : s.syncState with
  | seekPreamble k => exact .inl ⟨k, rfl, rfl⟩
  | seekStartBit => exact .inr (.inl ⟨rfl, rfl⟩)
  | gathering n =>
    cases n with
    | zero => exact .inr (.inr (.inr ⟨rfl, rfl⟩))
    | succ n => exact .inr (.inr (.inl ⟨n, rfl, rfl⟩))

theorem syncStep_bufferSafe {s : State} (b : Bool) (h : s.BufferSafe) : (syncStep b s).BufferSafe := by
  rcases syncStep_cases b s with ⟨k, -, e⟩ | ⟨-, e⟩ | ⟨n, -, e⟩ | ⟨-, e⟩ <;> rw [e]
  · exact h.of_eq
  · split
    · exact h
    · exact h.of_eq
  · exact h.of_eq
  · have hacc : (setAcc (shiftIn s.acc b) s).BufferSafe := h.of_eq
    exact (publishBegin_bufferSafe (shiftIn s.acc b) hacc).of_eq

/-- The accumulator is bounded in `Gathering` only, so a preamble search needs its count in range and nothing else. -/
theorem seekPreambleNext_syncSafe {k : Nat} (b : Bool) (s : State) (h : 1 ≤ k ∧ k ≤ 10) :
    (setSync (seekPreambleNext k b) s).SyncSafe := by
  unfold seekPreambleNext
  split_ifs with hb hk
  · exact ⟨rfl, rfl⟩
  · have hk' : 1 ≤ k - 1 ∧ k - 1 ≤ 10 := by omega
    exact ⟨by simpa [SyncState.legal] using hk', rfl⟩
  · exact ⟨rfl, rfl⟩

/-- One more bit makes the accumulator at most one bit longer (41_synchronizer.md R142). -/
theorem shiftIn_toNat_lt {acc : Word} {k : Nat} (b : Bool) (h : acc.toNat < 2 ^ k) : (shiftIn acc b).toNat < 2 ^ (k + 1) := by
  unfold shiftIn
  rw [BitVec.toNat_or]
  refine Nat.or_lt_two_pow ?shifted ?bit
  case shifted =>
    rw [BitVec.toNat_shiftLeft, Nat.shiftLeft_eq]
    exact (Nat.mod_le _ _).trans_lt (by omega)
  case bit => cases b <;> simp

theorem syncStep_syncSafe {s : State} (b : Bool) (h : s.SyncSafe) : (syncStep b s).SyncSafe := by
  obtain ⟨hl, ha⟩ := h
  rcases syncStep_cases b s with ⟨k, hs, e⟩ | ⟨hs, e⟩ | ⟨n, hs, e⟩ | ⟨hs, e⟩ <;> rw [e]
  · exact seekPreambleNext_syncSafe b s (by simpa [SyncState.legal, hs] using hl)
  · split
    · exact ⟨hl, ha⟩
    · exact ⟨rfl, rfl⟩
  · have hn : n + 1 ≤ 31 := by simpa [SyncState.legal, hs] using hl
    have hacc : s.acc.toNat < 2 ^ (31 - (n + 1)) := by simpa [State.accFits, hs] using ha
    have hnext := shiftIn_toNat_lt b hacc
    rw [show 31 - (n + 1) + 1 = 31 - n by omega] at hnext
    exact ⟨decide_eq_true (by omega), decide_eq_true hnext⟩
  · exact ⟨rfl, rfl⟩

theorem passBit_bufferSafe {s : State} (b : Option Bool) (h : s.BufferSafe) : (passBit b s).BufferSafe := by
  cases b with
  | none => exact h
  | some b => exact syncStep_bufferSafe b h

theorem passBit_syncSafe {s : State} (b : Option Bool) (h : s.SyncSafe) : (passBit b s).SyncSafe := by
  cases b with
  | none => exact h
  | some b => exact syncStep_syncSafe b h

/-! ### The sampler -/

/-- A sample takes a sampler that is not halted to counters that only the stuck-high test has still to look at: in `TIMING` each
high sample adds one to the high run and takes one off the countdown, so only `WAIT_FALL` lets the run grow full. -/
theorem sampleMove_countersMoved {s : State} (level : Bool) (hw : s.params.wf = true) (hn : s.smpState ≠ .halted)
    (h : s.CountersSafe) : (sampleMove level (countHigh level s)).CountersMoved := by
  obtain ⟨-, hsample, hstuck⟩ := (wf_iff _).mp hw
  unfold State.CountersSafe at h
  unfold State.CountersMoved sampleMove
  rw [countHigh_smpState]
  cases hs : s.smpState with
  | waitFall =>
    rw [hs] at h
    cases level <;> simp [hs] <;> omega
  | waitRise =>
    rw [hs] at h
    cases level <;> simp [hs] <;> omega
  | timing =>
    rw [hs] at h
    by_cases hc : s.smpCount - 1 = 0 <;> cases level <;> simp [hc] <;> omega
  | halted => exact absurd hs hn

/-- The stuck-high test halts a sampler with a full high run, which is then not in `TIMING` (40_sampler.md R126). -/
theorem checkStuck_countersSafe {s : State} (hw : s.params.wf = true) (h : s.CountersMoved) : (checkStuck s).CountersSafe := by
  obtain ⟨-, hsample, hstuck⟩ := (wf_iff _).mp hw
  unfold State.CountersMoved at h
  unfold checkStuck
  split
  next hfull =>
    have hcount : s.smpCount = 0 := by cases hs : s.smpState <;> simp only [hs] at h <;> omega
    exact ⟨hcount, hfull⟩
  next hfull =>
    unfold State.CountersSafe
    cases hs : s.smpState <;> simp only [hs] at h ⊢ <;> omega

theorem sampleMove_halted_iff (level : Bool) (s : State) : (sampleMove level s).smpState = .halted ↔ s.smpState = .halted := by
  unfold sampleMove
  cases hs : s.smpState with
  | waitFall | waitRise | timing => simp only; split_ifs <;> simp [hs]
  | halted => simp [hs]

theorem sampleMove_faultWhileHalted {s : State} (level : Bool) (h : s.faultWhileHalted) :
    (sampleMove level (countHigh level s)).faultWhileHalted := by
  unfold State.faultWhileHalted
  rw [sampleMove_halted_iff]
  simpa using h

theorem checkStuck_faultWhileHalted {s : State} (h : s.faultWhileHalted) : (checkStuck s).faultWhileHalted := by
  unfold checkStuck
  split
  · exact ⟨fun _ => rfl, fun _ => rfl⟩
  · exact h

/-! ### The producer's steps -/

theorem commitIfPending_safe {s : State} (h : s.Safe) : (commitIfPending s).Safe := by
  obtain ⟨hw, hb, hd, hs, hf, hc⟩ := safe_iff.mp h
  exact safe_iff.mpr ⟨by simpa using hw, commitIfPending_bufferSafe hb, hd.of_eq, hs.of_eq, hf.of_eq, hc.of_eq⟩

theorem sampleTick_safe {s : State} (level : Bool) (hn : s.smpState ≠ .halted) (h : s.Safe) : (sampleTick level s).Safe := by
  obtain ⟨hw, hb, hd, hs, hf, hc⟩ := safe_iff.mp h
  refine safe_iff.mpr ⟨by simpa using hw, ?buffer, hd.of_eq, ?sync, ?flag, ?counters⟩
  case buffer =>
    have hmove : (sampleMove level (countHigh level s)).BufferSafe := hb.of_eq
    have hpass := passBit_bufferSafe (sampledBit level s) hmove
    unfold sampleTick
    exact hpass.of_eq
  case sync =>
    have hmove : (sampleMove level (countHigh level s)).SyncSafe := hs.of_eq
    have hpass := passBit_syncSafe (sampledBit level s) hmove
    unfold sampleTick
    exact hpass.of_eq
  case flag =>
    exact checkStuck_faultWhileHalted (sampleMove_faultWhileHalted level hf).of_eq
  case counters =>
    exact checkStuck_countersSafe (by simpa using hw) (sampleMove_countersMoved level hw hn hc).of_eq

theorem tick_safe {s : State} (level : Bool) (h : s.Safe) : (tick level s).Safe := by
  unfold tick
  split
  next => exact commitIfPending_safe h
  next hn => exact sampleTick_safe level hn (commitIfPending_safe h)

/-- A restart puts the producer at its reset values; the buffer stays as it was, less a begun publication. -/
theorem restartSampler_safe {s : State} (h : s.Safe) : (restartSampler s).Safe := by
  obtain ⟨hw, hb, hd, -, -, -⟩ := safe_iff.mp h
  obtain ⟨-, hsample, hstuck⟩ := (wf_iff _).mp hw
  have hrun : 0 < s.params.tStuckTicks := by omega
  refine safe_iff.mpr ⟨by simpa using hw, ?buffer, hd.of_eq, ?sync, ?flag, ?counters⟩
  case buffer => exact abandonPublish_bufferSafe hb.of_eq
  case sync => simp [restartSampler, State.SyncSafe, SyncState.legal, State.accFits, Config.preambleLen]
  case flag => simp [restartSampler, State.faultWhileHalted]
  case counters => simp [restartSampler, State.CountersSafe, hrun]

/-! ### The decoder's steps -/

/-- What `DEC_START` can do: in `IDLE` take a `READY` word, or nothing (43_decoder.md R175). -/
theorem decStart_cases (s : State) :
    decStart s = s ∨ s.decPhase = .idle ∧ s.slot s.latest = .ready ∧
      decStart s = beginDecode (s.cell s.latest) (s.setSlot s.latest .empty) := by
  unfold decStart
  split_ifs with hp
  · split
    next w t ht =>
      obtain ⟨hr, rfl, rfl⟩ := takeWord_eq_some.mp ht
      exact .inr ⟨hp, hr, rfl⟩
    next => exact .inl rfl
  · exact .inl rfl

theorem decStart_safe {s : State} (h : s.Safe) : (decStart s).Safe := by
  rcases decStart_cases s with e | ⟨-, -, e⟩ <;> rw [e]
  · exact h
  · obtain ⟨hw, hb, ⟨-, h0⟩, hs, hf, hc⟩ := safe_iff.mp h
    have hdec : (beginDecode (s.cell s.latest) (s.setSlot s.latest .empty)).DecoderSafe :=
      ⟨⟨fun _ => .inl rfl, fun _ => rfl⟩, h0⟩
    exact safe_iff.mpr ⟨hw, (takeLatest_bufferSafe hb).of_eq, hdec, hs.of_eq, hf, hc.of_eq⟩

/-- Every instruction writes one group of the table, none of them with F0 in it, or nothing at all
(43_decoder.md R186 to R201). -/
theorem exec_cases (i : Instr) (s : State) :
    exec i s = keepTable s ∨ ∃ base pay, 1 ≤ base ∧ exec i s = writeGroup base pay s := by
  cases i with
  | fgF1F4A pay => exact .inr ⟨baseF1F4, pay, by decide, rfl⟩
  | fgF1F4B pay => exact .inr ⟨baseF1F4, pay, by decide, rfl⟩
  | fgF9F12 pay => exact .inr ⟨baseF9F12, pay, by decide, rfl⟩
  | fgF5F8 pay => exact .inr ⟨baseF5F8, pay, by decide, rfl⟩
  | _ => exact .inl rfl

/-- What `DEC_APPLY` can do: nothing outside `APPLY`; in it the phase moves on, and an accepted word may have a group without F0
written (43_decoder.md R176, R178). -/
theorem decApply_next {s t : State} (h : decApply s = .next t) :
    t = s ∨ s.decPhase = .apply ∧ (t = finishApply s ∨
      accepts s.params s.decWord = true ∧
        ∃ base pay, 1 ≤ base ∧ t = finishApply { s with fbt := mergeGroup s.fbt base pay }) := by
  unfold decApply at h
  split_ifs at h with hp ha
  · refine .inr ⟨hp, ?_⟩
    rcases exec_cases (decode (instrField s.params s.decWord)) s with e | ⟨base, pay, hb, e⟩ <;> rw [e] at h <;> cases h
    · exact .inl rfl
    · exact .inr ⟨ha, base, pay, hb, rfl⟩
  · cases h
    exact .inr ⟨hp, .inl rfl⟩
  · cases h
    exact .inl rfl

theorem mergeGroup_f0 {t : Table} {base : Nat} (pay : Payload) (h : 1 ≤ base) :
    (mergeGroup t base pay).getLsbD 0 = t.getLsbD 0 := by
  have hbase : ¬ (base ≤ 0 ∧ 0 < base + 4) := by omega
  rw [getLsbD_mergeGroup, if_neg hbase]
  rfl

/-- Writing a group without F0 keeps a state safe (43_decoder.md R184). -/
theorem mergeGroup_safe {s : State} {base : Nat} (pay : Payload) (hb : 1 ≤ base) (h : s.Safe) :
    ({ s with fbt := mergeGroup s.fbt base pay } : State).Safe := by
  obtain ⟨hw, hbuf, ⟨hbusy, h0⟩, hs, hf, hc⟩ := safe_iff.mp h
  exact safe_iff.mpr ⟨hw, hbuf.of_eq, ⟨hbusy, (mergeGroup_f0 pay hb).trans h0⟩, hs.of_eq, hf, hc.of_eq⟩

theorem finishApply_safe {s : State} (hp : s.decPhase = .apply) (h : s.Safe) : (finishApply s).Safe := by
  obtain ⟨hw, hb, ⟨hbusy, h0⟩, hs, hf, hc⟩ := safe_iff.mp h
  have hdec : (finishApply s).DecoderSafe := ⟨⟨fun _ => .inr rfl, fun _ => hbusy.mpr (.inl hp)⟩, h0⟩
  exact safe_iff.mpr ⟨hw, hb.of_eq, hdec, hs.of_eq, hf, hc.of_eq⟩

theorem decApply_safe {s t : State} (h : s.Safe) (hn : decApply s = .next t) : t.Safe := by
  obtain rfl | ⟨hp, rfl | ⟨-, base, pay, hb, rfl⟩⟩ := decApply_next hn
  · exact h
  · exact finishApply_safe hp h
  · exact finishApply_safe hp (mergeGroup_safe pay hb h)

theorem decEnd_safe {s : State} (h : s.Safe) : (decEnd s).Safe := by
  unfold decEnd
  split
  · obtain ⟨hw, hb, ⟨-, h0⟩, hs, hf, hc⟩ := safe_iff.mp h
    exact safe_iff.mpr ⟨hw, hb.of_eq, ⟨⟨nofun, nofun⟩, h0⟩, hs.of_eq, hf, hc.of_eq⟩
  · exact h

/-! ### The whole machine -/

/-- With `rst` released a driven target address is the one already there (70_reset_and_hazards.md R266). -/
theorem runStep_driveTarget_next {addr : Address} {s t : State} (h : runStep (.driveTarget addr) s = .next t) : t = s := by
  simp only [runStep] at h
  split_ifs at h
  cases h
  rfl

theorem runStep_safe {a : AgentStep} {s t : State} (h : s.Safe) (hn : runStep a s = .next t) : t.Safe := by
  cases a with
  | tick level =>
    cases hn
    split
    · exact restartSampler_safe h
    · exact tick_safe level h
  | decStart => cases hn; exact decStart_safe h
  | decApply => exact decApply_safe h hn
  | decEnd => cases hn; exact decEnd_safe h
  | readButton | readStatus => cases hn; exact h
  | driveResets rst smpRestart =>
    cases hn
    have hpins : (setPins rst smpRestart s).Safe := h
    split
    · exact restartSampler_safe hpins
    · exact hpins
  | driveTarget addr => exact runStep_driveTarget_next hn ▸ h

/-- Settles O50: a full reset starts again from safe values, and each agent's own step keeps every part of a safe state. -/
theorem stepKeepsSafe : Obligations.StepKeepsSafe := by
  intro s t hs h
  have hsafe : s.consume.Safe := hs
  obtain ⟨hw, ht⟩ := step_next h
  rcases takeStep_next ht with ⟨-, hreset⟩ | ⟨-, -, hrun⟩
  · exact resetInstant_safe hsafe.1 hreset
  · exact runStep_safe hsafe hrun

/-- Of the agents' own steps only `DEC_APPLY` writes the table (43_decoder.md R176). -/
theorem runStep_fbt {a : AgentStep} {s t : State} (hn : runStep a s = .next t) (ha : a ≠ .decApply) : t.fbt = s.fbt := by
  cases a with
  | tick level =>
    cases hn
    split
    · exact restartSampler_fbt s
    · exact tick_fbt level s
  | decStart =>
    cases hn
    rcases decStart_cases s with e | ⟨-, -, e⟩ <;> simp [e]
  | decApply => exact absurd rfl ha
  | decEnd =>
    cases hn
    unfold decEnd
    split <;> rfl
  | readButton | readStatus => cases hn; rfl
  | driveResets rst smpRestart =>
    cases hn
    split
    · exact restartSampler_fbt (setPins rst smpRestart s)
    · rfl
  | driveTarget addr => rw [runStep_driveTarget_next hn]

/-- A `DEC_APPLY` that writes the table has an accepted word in hand (43_decoder.md R178). -/
theorem decApply_accepts_of_fbt_ne {s t : State} (h : decApply s = .next t) (hne : t.fbt ≠ s.fbt) :
    s.decPhase = .apply ∧ accepts s.params s.decWord = true := by
  obtain rfl | ⟨hp, rfl | ⟨ha, -⟩⟩ := decApply_next h
  · exact absurd rfl hne
  · exact absurd rfl hne
  · exact ⟨hp, ha⟩

/-- Settles O56: a reset clears the table, and of the agents' own steps only a `DEC_APPLY` on an accepted word writes it. -/
theorem tableChangesOnlyByApplyOrReset : Obligations.TableChangesOnlyByApplyOrReset := by
  intro s t h hne
  have hne' : t.fbt ≠ s.consume.fbt := hne
  obtain ⟨-, ht⟩ := step_next h
  rcases takeStep_next ht with ⟨hrst, hreset⟩ | ⟨-, -, hrun⟩
  · obtain ⟨u, rfl, -⟩ := resetInstant_next hreset
    exact .inl ⟨by simpa using hrst, rfl⟩
  · have ha : s.nextStep = .decApply := by
      by_contra ha
      exact hne' (runStep_fbt hrun ha)
    rw [ha] at hrun
    obtain ⟨hp, hacc⟩ := decApply_accepts_of_fbt_ne hrun hne'
    exact .inr ⟨ha, hp, hacc⟩

end Sys2Proof.Machine

namespace Sys2Proof.Machine

/-- Settles O27: a whole frame is delivered as one word, and after 32 appended bits nothing of the old accumulator is left in it. -/
theorem firstBitIsMostSignificant : Obligations.FirstBitIsMostSignificant := by
  intro s bits hs hp hl
  rw [feedBits_gathering_all hs hp hl]
  refine ⟨deliverWord_latest _ s, deliverWord_slot _ s, deliverWord_syncState _ s, fun n hn => ?_⟩
  rw [deliverWord_latest, deliverWord_cell, getLsbD_foldl_shiftIn bits s.acc n hn, hl, if_pos hn]

end Sys2Proof.Machine

namespace Sys2Proof.Machine

/-! ### Decode and encode (30_encoding.md R97, R99, R107) -/

@[simp] theorem selectorOf_append (sel : Selector) (pay : Payload) : selectorOf (sel ++ pay) = sel := by
  apply BitVec.eq_of_getLsbD_eq
  intro j hj
  simp only [selectorOf, BitVec.getLsbD_extractLsb', BitVec.getLsbD_append]
  interval_cases j <;> simp

@[simp] theorem payloadOf_append (sel : Selector) (pay : Payload) : payloadOf (sel ++ pay) = pay := by
  apply BitVec.eq_of_getLsbD_eq
  intro j hj
  simp only [payloadOf, BitVec.getLsbD_extractLsb', BitVec.getLsbD_append]
  interval_cases j <;> simp

theorem selectorOf_append_payloadOf (b : Byte) : selectorOf b ++ payloadOf b = b := by
  apply BitVec.eq_of_getLsbD_eq
  intro j hj
  simp only [selectorOf, payloadOf, BitVec.getLsbD_extractLsb', BitVec.getLsbD_append]
  interval_cases j <;> simp

/-- Each row of the selector map stands under its own selector. -/
theorem instrOf_selectorBits_payloadBits (i : Instr) : instrOf (selectorBits i) (payloadBits i) = i := by
  cases i <;> simp [instrOf, selectorBits, payloadBits]

/-- The selector map has a row for every selector, and each row keeps its selector and its payload. -/
theorem selectorBits_payloadBits_instrOf (sel : Selector) (pay : Payload) :
    selectorBits (instrOf sel pay) = sel ∧ payloadBits (instrOf sel pay) = pay := by
  revert sel pay
  decide

@[simp] theorem decode_encode (i : Instr) : decode (encode i) = i := by
  rw [decode, encode, selectorOf_append, payloadOf_append, instrOf_selectorBits_payloadBits]

@[simp] theorem encode_decode (b : Byte) : encode (decode b) = b := by
  obtain ⟨hsel, hpay⟩ := selectorBits_payloadBits_instrOf (selectorOf b) (payloadOf b)
  rw [encode, decode, hsel, hpay, selectorOf_append_payloadOf]

/-! ### The fields of the word that carries an instruction byte to its target (30_encoding.md R93 to R96) -/

/-- A target of the short form fits the seven address bits that are compared (10_state.md R34; 30_encoding.md R95). -/
theorem shortAddress_roundTrip {a : Address} (h : a.toNat ≤ 127) : ((a.setWidth 8).extractLsb' 0 7).setWidth 14 = a := by
  apply BitVec.eq_of_toNat_eq
  simp
  omega

theorem instrField_wordFor (p : Params) (b : Byte) : instrField p (p.wordFor b) = b := by
  unfold instrField Params.wordFor
  split
  · exact packShort_instr _ _ _ _
  · exact packLong_instr _ _ _ _

theorem addrField_wordFor (p : Params) (b : Byte) : addrField p (p.wordFor b) = p.targetAddr := by
  unfold addrField Params.wordFor
  split
  next hshort => rw [packShort_shortAddr, shortAddress_roundTrip ((shortMode_iff p).mp hshort)]
  next => rw [packLong_longAddr, longBytes_addr]

theorem checksumOk_wordFor (p : Params) (b : Byte) : checksumOk p (p.wordFor b) = true := by
  unfold checksumOk Params.wordFor
  split
  · simp [chkShort]
  · simp [chkLong]

theorem accepts_wordFor (p : Params) (b : Byte) : accepts p (p.wordFor b) = true := by
  simp [accepts, gatePasses, addrMatches, checksumOk_wordFor, addrField_wordFor]

/-- Settles O2: the word's address, checksum and instruction fields are what the layout put there, and a row of the selector map is
found again under its selector. -/
theorem encodedInstructionIsDecoded : Obligations.EncodedInstructionIsDecoded := by
  intro p i
  refine ⟨decode_encode i, accepts_wordFor p (encode i), ?_⟩
  rw [instrField_wordFor, decode_encode]

/-- A row of the opcode table is read exactly from the eight bits of an instruction byte. -/
theorem decodeTableWord_eq_some_iff {nbits w : Nat} {i : Instr} :
    decodeTableWord nbits w = some i ↔ nbits = 8 ∧ w < 256 ∧ decode (BitVec.ofNat 8 w) = i := by
  unfold decodeTableWord
  split
  next h => simp [h]
  next h =>
    have hno : ¬ (nbits = 8 ∧ w < 256 ∧ decode (BitVec.ofNat 8 w) = i) := fun ⟨hn, hw, _⟩ => h ⟨hn, hw⟩
    simp [hno]

/-- Settles O3: `encode` and `decode` are inverse to each other, so a byte's instruction is one and has that byte only. -/
theorem everyByteIsOneInstruction : Obligations.EveryByteIsOneInstruction := by
  refine ⟨fun b => ⟨decode b, ?_⟩, fun nbits w i => ?_⟩
  · exact decodeTableWord_eq_some_iff.mpr ⟨rfl, b.isLt, by rw [BitVec.ofNat_toNat, BitVec.setWidth_eq]⟩
  · rw [decodeTableWord_eq_some_iff]
    constructor
    · rintro ⟨hn, hw, rfl⟩
      rw [encode_decode, BitVec.toNat_ofNat, Nat.mod_eq_of_lt hw]
      exact ⟨hn, rfl⟩
    · rintro ⟨hn, rfl⟩
      exact ⟨hn, (encode i).isLt, by rw [BitVec.ofNat_toNat, BitVec.setWidth_eq, decode_encode]⟩

end Sys2Proof.Machine

namespace Sys2Proof.Machine

/-! ### Packets, gathered from the line (41_synchronizer.md R140 to R143) -/

@[simp] theorem deliverWord_params (w : Word) (s : State) : (deliverWord w s).params = s.params := by simp [deliverWord]
@[simp] theorem deliverWord_decPhase (w : Word) (s : State) : (deliverWord w s).decPhase = s.decPhase := by simp [deliverWord]
@[simp] theorem deliverWord_fbt (w : Word) (s : State) : (deliverWord w s).fbt = s.fbt := by simp [deliverWord]

/-- A preamble is sought or over: the states from which ten ones and a 0 start a frame (41_synchronizer.md R140, R141). -/
abbrev State.SeeksPreamble (s : State) (k : Nat) : Prop :=
  s.syncState = .seekPreamble k ∧ 1 ≤ k ∧ k ≤ 10 ∨ s.syncState = .seekStartBit

/-- Ten ones end a preamble search that was running or was over already (41_synchronizer.md R140, R141). -/
theorem feedBits_ones_seeking {s : State} {k pre : Nat} (hs : s.SeeksPreamble k) (hp : s.pubPending = false) (hpre : 10 ≤ pre) :
    feedBits (ones pre) s = setSync .seekStartBit s := by
  rcases hs with ⟨hs, hk, hk10⟩ | hs
  · rw [feedBits_ones_seekPreamble pre hs hk hp, if_neg (by omega)]
  · rw [feedBits_ones_seekStartBit hs hp, setSync_of_eq hs]

/-- A preamble, a start bit and 32 bits deliver the word those bits shift together (41_synchronizer.md R140 to R143). -/
theorem feedBits_frame {s : State} {k pre : Nat} {bits : List Bool} (hs : s.SeeksPreamble k) (hp : s.pubPending = false)
    (hpre : 10 ≤ pre) (hl : bits.length = 32) :
    feedBits (ones pre ++ [false] ++ bits) s = deliverWord (bits.foldl shiftIn 0) s := by
  have hstart : feedBits [false] (setSync .seekStartBit s) = setSync (.gathering 31) (setAcc 0 s) :=
    feedBit_seekStartBit (s := setSync .seekStartBit s) rfl hp false
  rw [feedBits_append, feedBits_append, feedBits_ones_seeking hs hp hpre, hstart,
    feedBits_gathering_all (s := setSync (.gathering 31) (setAcc 0 s)) rfl hp hl, deliverWord_setSync, deliverWord_setAcc]
  rfl

/-- The 32 bits of the short form, shifted in one by one, are its word (30_encoding.md R93). -/
theorem foldl_shiftIn_shortBits (a i c : Byte) (t4 t3 t2 t1 t0 : Bool) :
    (byteBits a ++ [false] ++ byteBits i ++ [false] ++ byteBits c ++ [true, t4, t3, t2, t1, t0]).foldl shiftIn 0 =
      packShort a i c (BitVec.ofBool true ++ BitVec.ofBool t4 ++ BitVec.ofBool t3 ++ BitVec.ofBool t2 ++ BitVec.ofBool t1 ++
        BitVec.ofBool t0) := by
  apply BitVec.eq_of_getLsbD_eq
  intro j hj
  rw [getLsbD_foldl_shiftIn _ _ j hj]
  simp only [packShort, byteBits, BitVec.getLsbD_append]
  interval_cases j <;> simp

/-- The 32 bits of the long form, shifted in one by one, are its word (30_encoding.md R94). -/
theorem foldl_shiftIn_longBits (b1 b2 i c : Byte) :
    (byteBits b1 ++ [false] ++ byteBits b2 ++ [false] ++ byteBits i ++ [false] ++
      [c.getLsbD 7, c.getLsbD 6, c.getLsbD 5, c.getLsbD 4, c.getLsbD 3]).foldl shiftIn 0 =
      packLong b1 b2 i (c.extractLsb' 3 5) := by
  apply BitVec.eq_of_getLsbD_eq
  intro j hj
  rw [getLsbD_foldl_shiftIn _ _ j hj]
  simp only [packLong, byteBits, BitVec.getLsbD_append, BitVec.getLsbD_extractLsb']
  interval_cases j <;> simp

/-- Settles O30: the packet's bits after its start bit, with five more, are one whole frame. -/
theorem shortPacketIsGathered : Obligations.ShortPacketIsGathered := by
  intro s k a i c pre t4 t3 t2 t1 t0 hs hp hpre w
  have hbits : pktShort a i c pre ++ [t4, t3, t2, t1, t0] = ones pre ++ [false] ++
      (byteBits a ++ [false] ++ byteBits i ++ [false] ++ byteBits c ++ [true, t4, t3, t2, t1, t0]) := by
    simp [pktShort, ones]
  rw [hbits, feedBits_frame hs hp hpre rfl, foldl_shiftIn_shortBits]

/-- Settles O31: the frame is whole with checksum bit `C[3]`; the packet's last four bits come after it. -/
theorem longPacketIsGathered : Obligations.LongPacketIsGathered := by
  intro s k b1 b2 i c pre hs hp hpre
  have hbits : pktLong b1 b2 i c pre = ones pre ++ [false] ++
      (byteBits b1 ++ [false] ++ byteBits b2 ++ [false] ++ byteBits i ++ [false] ++
        [c.getLsbD 7, c.getLsbD 6, c.getLsbD 5, c.getLsbD 4, c.getLsbD 3]) ++
      [c.getLsbD 2, c.getLsbD 1, c.getLsbD 0, true] := by
    simp [pktLong, ones, byteBits]
  rw [hbits, feedBits_append, feedBits_frame hs hp hpre rfl, foldl_shiftIn_longBits]

/-- Fewer bits than a preamble search still counts down do not end it (41_synchronizer.md R140). -/
theorem feedBits_seekPreamble_few (bits : List Bool) : ∀ {s : State} {k : Nat},
    s.syncState = .seekPreamble k → s.pubPending = false → k ≤ 10 → bits.length < k →
    ∃ x, feedBits bits s = setSync x s := by
  induction bits with
  | nil => exact fun _ _ _ _ => ⟨_, rfl⟩
  | cons b bits ih =>
    intro s k hs hp hk hl
    rw [List.length_cons] at hl
    rw [feedBits_cons, feedBit_seekPreamble hs hp]
    cases b with
    | false => exact ih (s := setSync (.seekPreamble 10) s) rfl hp le_rfl (by omega)
    | true =>
      have hnext : seekPreambleNext k true = .seekPreamble (k - 1) := by
        simp only [seekPreambleNext, if_true]
        rw [if_neg (by omega)]
      rw [hnext]
      exact ih (s := setSync (.seekPreamble (k - 1)) s) rfl hp (by omega) (by omega)

/-- A well-formed packet and five more ones deliver the word that carries its byte to this core's target; in the long form the nine
bits after the word are too few to end the next preamble search (30_encoding.md R93, R94). -/
theorem feedBits_packetFor {s : State} {pre : Nat} (b : Byte) (hs : s.syncState = .seekPreamble 10)
    (hp : s.pubPending = false) (hpre : 10 ≤ pre) :
    ∃ x, feedBits (packetFor s.params b pre ++ ones 5) s = setSync x (deliverWord (s.params.wordFor b) s) := by
  have hseeks : s.SeeksPreamble 10 := .inl ⟨hs, by omega, le_rfl⟩
  unfold packetFor Params.wordFor
  split
  next =>
    refine ⟨.seekPreamble 10, ?_⟩
    rw [setSync_of_eq (deliverWord_syncState _ s)]
    exact shortPacketIsGathered s 10 _ b _ pre true true true true true hseeks hp hpre
  next =>
    rw [feedBits_append, longPacketIsGathered s 10 _ _ b _ pre hseeks hp hpre, ← feedBits_append]
    exact feedBits_seekPreamble_few _ (deliverWord_syncState _ s) rfl le_rfl (by simp [ones])

/-! ### The decoder's steps -/

theorem decStart_of_ready {s : State} (hd : s.decPhase = .idle) (hr : s.slot s.latest = .ready) :
    decStart s = beginDecode (s.cell s.latest) (s.setSlot s.latest .empty) := by
  rw [decStart, if_pos hd, takeWord_eq_some.mpr ⟨hr, rfl, rfl⟩]

theorem decStart_of_not_enabled {s : State} (h : s.decPhase ≠ .idle ∨ s.slot s.latest ≠ .ready) : decStart s = s := by
  rcases decStart_cases s with e | ⟨hd, hr, -⟩
  · exact e
  · exact absurd h (by simp [hd, hr])

theorem decApply_of_not_enabled {s : State} (h : s.decPhase ≠ .apply) : decApply s = .next s := if_neg h

theorem decEnd_of_not_enabled {s : State} (h : s.decPhase ≠ .finish) : decEnd s = s := if_neg h

/-- No instruction stops the machine (43_decoder.md R186 to R201). -/
theorem exec_completes (i : Instr) (s : State) : ∃ t, exec i s = .next t := by
  rcases exec_cases i s with e | ⟨base, pay, -, e⟩ <;> exact ⟨_, e⟩

/-- `DEC_APPLY` on the word that carries an instruction to this core's target runs that instruction (43_decoder.md R176). -/
theorem decApply_of_wordFor {s : State} {i : Instr} (hd : s.decPhase = .apply) (hw : s.decWord = s.params.wordFor (encode i)) :
    decApply s = afterApply (exec i s) := by
  rw [decApply, if_pos hd, hw, if_pos (accepts_wordFor _ _), instrField_wordFor, decode_encode]

/-- A decoder that finds its instruction's word ready takes it and runs the instruction (43_decoder.md R175, R176). -/
theorem decApply_decStart_of_wordFor {s : State} {i : Instr} (hd : s.decPhase = .idle) (hr : s.slot s.latest = .ready)
    (hw : s.cell s.latest = s.params.wordFor (encode i)) :
    (decStart s).decPhase = .apply ∧ (decStart s).busy = true ∧ (decStart s).fbt = s.fbt ∧
      ∃ t, exec i (decStart s) = .next t ∧ decApply (decStart s) = .next { t with decPhase := .finish } := by
  rw [decStart_of_ready hd hr]
  obtain ⟨t, ht⟩ := exec_completes i (beginDecode (s.cell s.latest) (s.setSlot s.latest .empty))
  refine ⟨rfl, rfl, rfl, t, ht, ?_⟩
  rw [decApply_of_wordFor rfl hw, ht]
  rfl

/-- Settles O58: the packet delivers its instruction's word, `DEC_START` takes that word, and `DEC_APPLY` accepts it. -/
theorem packetOnTheLineRunsItsInstruction : Obligations.PacketOnTheLineRunsItsInstruction := by
  intro s i pre hs hp hd hpre
  obtain ⟨x, hfeed⟩ := feedBits_packetFor (encode i) hs hp hpre
  have hrun := decApply_decStart_of_wordFor (i := i) (s := setSync x (deliverWord (s.params.wordFor (encode i)) s))
    (by simpa using hd) (by simp) (by simp)
  rw [setSync_fbt, deliverWord_fbt, ← hfeed] at hrun
  exact hrun

/-- Settles O23: outside its phase, or with no `READY` word to take, a decoder step is the identity. -/
theorem disabledDecoderStepsChangeNothing : Obligations.DisabledDecoderStepsChangeNothing := by
  intro s hrun
  refine ⟨fun hn h => ?_, fun hn h => ?_, fun hn h => ?_⟩ <;> rw [step_of_running hrun (by rw [hn]; rfl), hn]
  · exact congrArg _ (decStart_of_not_enabled (s := s.consume) h)
  · exact decApply_of_not_enabled (s := s.consume) h
  · exact congrArg _ (decEnd_of_not_enabled (s := s.consume) h)

end Sys2Proof.Machine

namespace Sys2Proof.Machine

/-! ### Line levels, sampled bit by bit (30_encoding.md R108; 40_sampler.md R120 to R126) -/

/-- The state with the sampler's own three elements at these values. -/
def withSampler (x : SmpState) (count run : Nat) (s : State) : State :=
  { s with smpState := x, smpCount := count, highRun := run }

theorem withSampler_self {s : State} {x : SmpState} {count run : Nat} (hx : s.smpState = x) (hc : s.smpCount = count)
    (hr : s.highRun = run) : withSampler x count run s = s := by
  subst hx hc hr
  rfl

@[simp] theorem withSampler_params (x : SmpState) (c r : Nat) (s : State) : (withSampler x c r s).params = s.params := rfl
@[simp] theorem withSampler_smpState (x : SmpState) (c r : Nat) (s : State) : (withSampler x c r s).smpState = x := rfl
@[simp] theorem withSampler_smpCount (x : SmpState) (c r : Nat) (s : State) : (withSampler x c r s).smpCount = c := rfl
@[simp] theorem withSampler_highRun (x : SmpState) (c r : Nat) (s : State) : (withSampler x c r s).highRun = r := rfl
@[simp] theorem withSampler_pubPending (x : SmpState) (c r : Nat) (s : State) :
    (withSampler x c r s).pubPending = s.pubPending := rfl

/-! The synchronizer and the packet buffer neither read nor write the sampler. -/

theorem syncStep_withSampler (b : Bool) (x : SmpState) (c r : Nat) (s : State) :
    syncStep b (withSampler x c r s) = withSampler x c r (syncStep b s) := by
  have hsync : (withSampler x c r s).syncState = s.syncState := rfl
  unfold syncStep
  rw [hsync]
  cases s.syncState with
  | seekPreamble k => rfl
  | seekStartBit => cases b <;> rfl
  | gathering n => cases n <;> rfl

theorem publishCommit_withSampler (x : SmpState) (c r : Nat) (s : State) :
    publishCommit (withSampler x c r s) = withSampler x c r (publishCommit s) := by
  have hdrop : ∀ i u, dropIfReady i (withSampler x c r u) = withSampler x c r (dropIfReady i u) := by
    intro i u
    have hslot : (withSampler x c r u).slot i = u.slot i := rfl
    unfold dropIfReady
    rw [hslot]
    split <;> rfl
  exact congrArg (fun u : State => { u with latest := s.pubSlot, pubPending := false })
    (hdrop (otherCell s.pubSlot) (s.setSlot s.pubSlot .ready))

theorem commitIfPending_withSampler (x : SmpState) (c r : Nat) (s : State) :
    commitIfPending (withSampler x c r s) = withSampler x c r (commitIfPending s) := by
  unfold commitIfPending
  rw [withSampler_pubPending, publishCommit_withSampler]
  split <;> rfl

/-- A bit is emitted by one tick and its word committed by the next (40_sampler.md R120), so a tick after the bit is a tick after
the bit and its commit. -/
theorem tick_syncStep_withSampler (level b : Bool) (x : SmpState) (c r : Nat) (s : State) :
    tick level (syncStep b (withSampler x c r s)) = tick level (withSampler x c r (feedBit s b)) := by
  rw [syncStep_withSampler, ← tick_commitIfPending, commitIfPending_withSampler, feedBit]

theorem runTicks_syncStep_withSampler {samples : List Bool} (hl : samples ≠ []) (b : Bool) (x : SmpState) (c r : Nat)
    (s : State) : runTicks samples (syncStep b (withSampler x c r s)) = runTicks samples (withSampler x c r (feedBit s b)) := by
  cases samples with
  | nil => exact absurd rfl hl
  | cons level samples => rw [runTicks_cons, runTicks_cons, tick_syncStep_withSampler]

/-- The high run after one more sample, below `T_STUCK_TICKS` (40_sampler.md R126). -/
def nextHighRun (run : Nat) (level : Bool) : Nat := if level then run + 1 else 0

theorem nextHighRun_le (run : Nat) (level : Bool) : nextHighRun run level ≤ run + 1 := by
  cases level <;> simp [nextHighRun]

theorem foldl_nextHighRun_high (m run : Nat) : (List.replicate m true).foldl nextHighRun run = run + m := by
  induction m generalizing run with
  | zero => rfl
  | succ m ih =>
    rw [List.replicate_succ, List.foldl_cons, ih]
    simp only [nextHighRun, if_true]
    omega

/-! One tick in each state of the sampler, and runs of them, with no commit due at the start and a high run that stays below
`T_STUCK_TICKS`. -/

section Ticks

variable {s : State} (hp : s.pubPending = false)
include hp

theorem tick_withSampler {c r : Nat} (x : SmpState) (level : Bool) (hx : x ≠ .halted)
    (hr : nextHighRun r level < s.params.tStuckTicks) :
    tick level (withSampler x c r s) =
      passBit (sampledBit level (withSampler x c r s)) (sampleMove level (withSampler x c (nextHighRun r level) s)) := by
  have hcount : countHigh level (withSampler x c r s) = withSampler x c (nextHighRun r level) s := by
    cases level with
    | false => rfl
    | true => exact congrArg (withSampler x c · s) (Nat.min_eq_left (Nat.le_of_lt hr))
  rw [tick, commitIfPending_of_not (by exact hp), if_neg (by exact hx), sampleTick, hcount, checkStuck,
    if_neg (by simpa using Nat.ne_of_lt hr)]

theorem tick_waitFall {r : Nat} (level : Bool) (hr : nextHighRun r level < s.params.tStuckTicks) :
    tick level (withSampler .waitFall 0 r s) =
      withSampler (if level then .waitFall else .waitRise) 0 (nextHighRun r level) s := by
  rw [tick_withSampler hp .waitFall level nofun hr]
  cases level <;> rfl

theorem tick_waitRise {r : Nat} (level : Bool) (hr : nextHighRun r level < s.params.tStuckTicks) :
    tick level (withSampler .waitRise 0 r s) =
      if level then withSampler .timing s.params.tSampleTicks (r + 1) s else withSampler .waitRise 0 0 s := by
  rw [tick_withSampler hp .waitRise level nofun hr]
  cases level <;> rfl

theorem tick_timing {n r : Nat} (level : Bool) (hr : r + 1 < s.params.tStuckTicks) :
    tick level (withSampler .timing (n + 2) r s) = withSampler .timing (n + 1) (nextHighRun r level) s := by
  rw [tick_withSampler hp .timing level nofun ((nextHighRun_le r level).trans_lt hr)]
  rfl

/-- The classification tick: its level decides the bit and what the sampler waits for next (40_sampler.md R122, R123). -/
theorem tick_classify {r : Nat} (level : Bool) (hr : r + 1 < s.params.tStuckTicks) :
    tick level (withSampler .timing 1 r s) =
      syncStep (!level) (withSampler (if level then .waitFall else .waitRise) 0 (nextHighRun r level) s) := by
  rw [tick_withSampler hp .timing level nofun ((nextHighRun_le r level).trans_lt hr)]
  rfl

/-- The levels inside the sampling window count the countdown down and are not looked at (40_sampler.md R122). -/
theorem runTicks_timing (mid : List Bool) : ∀ {r : Nat}, r + mid.length < s.params.tStuckTicks →
    runTicks mid (withSampler .timing (mid.length + 1) r s) = withSampler .timing 1 (mid.foldl nextHighRun r) s ∧
      mid.foldl nextHighRun r ≤ r + mid.length := by
  induction mid with
  | nil => exact fun _ => ⟨rfl, le_rfl⟩
  | cons level mid ih =>
    intro r hr
    rw [List.length_cons] at hr
    have hnext := nextHighRun_le r level
    obtain ⟨hrun, hle⟩ := ih (r := nextHighRun r level) (by omega)
    rw [runTicks_cons, List.length_cons, tick_timing hp level (by omega), hrun]
    exact ⟨rfl, hle.trans (by omega)⟩

/-- From a rising edge to the classification tick `T_SAMPLE_TICKS` later (40_sampler.md R122, R123). -/
theorem runTicks_window {mid : List Bool} (level : Bool) (hl : mid.length + 1 = s.params.tSampleTicks)
    (hw : s.params.tSampleTicks + 2 ≤ s.params.tStuckTicks) :
    runTicks (true :: mid ++ [level]) (withSampler .waitRise 0 0 s) =
      syncStep (!level) (withSampler (if level then .waitFall else .waitRise) 0
        (nextHighRun (mid.foldl nextHighRun 1) level) s) := by
  obtain ⟨hrun, hle⟩ := runTicks_timing hp mid (r := 1) (by omega)
  rw [runTicks_append, runTicks_cons, runTicks_cons, tick_waitRise hp true (show 0 + 1 < _ by omega), if_pos rfl, ← hl, hrun,
    runTicks_nil, tick_classify hp level (by omega)]

theorem runTicks_waitRise_low (n : Nat) (hw : 0 < s.params.tStuckTicks) :
    runTicks (List.replicate n false) (withSampler .waitRise 0 0 s) = withSampler .waitRise 0 0 s := by
  induction n with
  | zero => rfl
  | succ n ih =>
    rw [List.replicate_succ, runTicks_cons, tick_waitRise hp false (show 0 < _ by omega), if_neg (by decide)]
    exact ih

theorem runTicks_waitFall_high (m : Nat) : ∀ {r : Nat}, r + m < s.params.tStuckTicks →
    runTicks (List.replicate m true) (withSampler .waitFall 0 r s) = withSampler .waitFall 0 (r + m) s := by
  induction m with
  | zero => exact fun _ => rfl
  | succ m ih =>
    intro r hr
    rw [List.replicate_succ, runTicks_cons, tick_waitFall hp true (show r + 1 < _ by omega)]
    have hrest := ih (r := r + 1) (by omega)
    rw [show r + 1 + m = r + (m + 1) by omega] at hrest
    exact hrest

/-- A high stretch and the low one after it take `WAIT_FALL` to `WAIT_RISE` (40_sampler.md R121). -/
theorem runTicks_waitFall {r m n : Nat} (hn : n ≠ 0) (hr : r + m < s.params.tStuckTicks) :
    runTicks (List.replicate m true ++ List.replicate n false) (withSampler .waitFall 0 r s) = withSampler .waitRise 0 0 s := by
  obtain ⟨n, rfl⟩ := Nat.exists_eq_succ_of_ne_zero hn
  rw [runTicks_append, runTicks_waitFall_high hp m hr, List.replicate_succ, runTicks_cons,
    tick_waitFall hp false (show 0 < _ by omega)]
  exact runTicks_waitRise_low hp n (by omega)

end Ticks

/-- The producer between two bits: the line was low, no count runs, no commit is due. -/
structure State.BetweenBits (s : State) : Prop where
  waiting : s.smpState = .waitRise
  count : s.smpCount = 0
  run : s.highRun = 0
  committed : s.pubPending = false

theorem State.BetweenBits.withSampler_eq {s : State} (h : s.BetweenBits) : withSampler .waitRise 0 0 s = s :=
  withSampler_self h.waiting h.count h.run

theorem feedBit_betweenBits {s : State} (b : Bool) (h : s.BetweenBits) : (feedBit s b).BetweenBits :=
  ⟨by simpa using h.waiting, by simpa using h.count, by simpa using h.run, commitIfPending_pubPending _⟩

/-- The bounds of 30_encoding.md R108 on the half lengths of a bit. -/
theorem levelsFit_iff {p : Params} {h1 h0 : Nat} :
    levelsFit p h1 h0 = true ↔
      h1 ≤ p.tSampleTicks ∧ p.tSampleTicks < 2 * h1 - 1 ∧ p.tSampleTicks + 1 ≤ h0 ∧ h0 < p.tStuckTicks := by
  simp [levelsFit, and_assoc]

/-- The samples of one bit: up to the classification tick they decide the bit, and the first one after it makes
the bit's commit. -/
theorem runTicks_bit {s : State} {mid rest : List Bool} (level : Bool) (h : s.BetweenBits)
    (hl : mid.length + 1 = s.params.tSampleTicks) (hw : s.params.tSampleTicks + 2 ≤ s.params.tStuckTicks)
    (hrest : rest ≠ []) :
    runTicks (true :: mid ++ [level] ++ rest) s =
      runTicks rest (withSampler (if level then .waitFall else .waitRise) 0 (nextHighRun (mid.foldl nextHighRun 1) level)
        (feedBit s (!level))) := by
  have hwindow := runTicks_window h.committed level hl hw
  rw [h.withSampler_eq] at hwindow
  rw [runTicks_append, hwindow, runTicks_syncStep_withSampler hrest]

/-- The samples of a 1 whose low half starts `before` samples ahead of its classification tick. -/
theorem bitLevels_one (before after h0 : Nat) :
    bitLevels (before + (after + 2)) h0 true =
      true :: (List.replicate (before + (after + 1)) true ++ List.replicate before false) ++ [false] ++
        List.replicate (after + 1) false := by
  have hhigh : List.replicate (before + (after + 2)) true = true :: List.replicate (before + (after + 1)) true := rfl
  have hlow : List.replicate (before + (after + 2)) false =
      List.replicate before false ++ [false] ++ List.replicate (after + 1) false := by
    rw [List.replicate_add, List.append_assoc]
    rfl
  simp [bitLevels, hhigh, hlow]

/-- The samples of a 0 whose high half goes on for `after` samples past its classification tick. -/
theorem bitLevels_zero (h1 window after : Nat) :
    bitLevels h1 (window + 2 + after) false =
      true :: List.replicate window true ++ [true] ++
        (List.replicate after true ++ List.replicate (window + 2 + after) false) := by
  have hhigh : List.replicate (window + 2 + after) true =
      true :: List.replicate window true ++ [true] ++ List.replicate after true := by
    rw [List.replicate_add, List.replicate_succ', List.replicate_succ]
  simp [bitLevels, hhigh]

/-- A 1: the sample falls into the low half, with at least one low sample after it for the commit. -/
theorem runTicks_bitLevels_one {s : State} {h1 h0 : Nat} (h : s.BetweenBits) (hfit : levelsFit s.params h1 h0 = true) :
    runTicks (bitLevels h1 h0 true) s = feedBit s true := by
  obtain ⟨hle, hlow, hhigh, hstuck⟩ := levelsFit_iff.mp hfit
  obtain ⟨before, hbefore⟩ : ∃ d, s.params.tSampleTicks = h1 + d := ⟨_, (Nat.add_sub_cancel' hle).symm⟩
  obtain ⟨after, rfl⟩ : ∃ n, h1 = before + (n + 2) := ⟨h1 - before - 2, by omega⟩
  have hnext := feedBit_betweenBits true h
  have hrest := runTicks_waitRise_low hnext.committed (after + 1) (by rw [feedBit_params]; omega)
  rw [hnext.withSampler_eq] at hrest
  rw [bitLevels_one, runTicks_bit false h (by simp; omega) (by omega) (by simp)]
  change runTicks _ (withSampler .waitRise 0 0 (feedBit s true)) = _
  rw [hnext.withSampler_eq, hrest]

/-- A 0: the sample falls into the high half; the rest of it is waited out, and the low half follows. -/
theorem runTicks_bitLevels_zero {s : State} {h1 h0 : Nat} (h : s.BetweenBits) (hfit : levelsFit s.params h1 h0 = true) :
    runTicks (bitLevels h1 h0 false) s = feedBit s false := by
  obtain ⟨hle, hlow, hhigh, hstuck⟩ := levelsFit_iff.mp hfit
  obtain ⟨window, hwindow⟩ : ∃ m, s.params.tSampleTicks = m + 1 := ⟨s.params.tSampleTicks - 1, by omega⟩
  obtain ⟨after, rfl⟩ : ∃ n, h0 = window + 2 + n := ⟨_, (Nat.add_sub_cancel' (by omega)).symm⟩
  have hnext := feedBit_betweenBits false h
  have hrest := runTicks_waitFall hnext.committed (r := 1 + window + 1) (m := after) (n := window + 2 + after)
    (by omega) (by rw [feedBit_params]; omega)
  rw [hnext.withSampler_eq] at hrest
  rw [bitLevels_zero, runTicks_bit true h (by simp; omega) (by omega) (by simp), foldl_nextHighRun_high]
  exact hrest

theorem runTicks_bitLevels {s : State} {h1 h0 : Nat} (b : Bool) (h : s.BetweenBits) (hfit : levelsFit s.params h1 h0 = true) :
    runTicks (bitLevels h1 h0 b) s = feedBit s b := by
  cases b with
  | true => exact runTicks_bitLevels_one h hfit
  | false => exact runTicks_bitLevels_zero h hfit

/-- The tick-level producer simulates the bit-level one, bit by bit (30_encoding.md R108). -/
theorem runTicks_levels {h1 h0 : Nat} (bits : List Bool) : ∀ {s : State}, s.BetweenBits → levelsFit s.params h1 h0 = true →
    runTicks (levels h1 h0 bits) s = feedBits bits s := by
  induction bits with
  | nil => exact fun _ _ => rfl
  | cons b bits ih =>
    intro s h hfit
    have hcons : levels h1 h0 (b :: bits) = bitLevels h1 h0 b ++ levels h1 h0 bits := List.flatMap_cons
    rw [hcons, runTicks_append, runTicks_bitLevels b h hfit, feedBits_cons]
    exact ih (feedBit_betweenBits b h) (by rwa [feedBit_params])

/-- Settles O36: a safe state at `WAIT_RISE` with no commit due stands between two bits, and every bit leads to
such a state again. -/
theorem levelsDeliverExactlyTheBits : Obligations.LevelsDeliverExactlyTheBits := by
  intro s h1 h0 bits hsafe hrise hp hfit
  obtain ⟨-, -, -, -, -, hcounters⟩ := safe_iff.mp hsafe
  obtain ⟨hcount, hrun⟩ : s.smpCount = 0 ∧ s.highRun = 0 := by simpa [State.CountersSafe, hrise] using hcounters
  exact runTicks_levels bits ⟨hrise, hcount, hrun, hp⟩ hfit

end Sys2Proof.Machine

namespace Sys2Proof.Machine

/-! ### The countdown from a rising edge to its one sample (40_sampler.md R122 to R125) -/

/-- A countdown stopped anywhere before its end: as `runTicks_timing`, with `n` more ticks to go, whatever the levels. -/
theorem runTicks_countdown {s : State} (hp : s.pubPending = false) (n : Nat) (mid : List Bool) : ∀ {r : Nat},
    r + mid.length < s.params.tStuckTicks →
    ∃ run, runTicks mid (withSampler .timing (mid.length + n + 1) r s) = withSampler .timing (n + 1) run s := by
  induction mid with
  | nil => exact fun {r} _ => ⟨r, by rw [List.length_nil, Nat.zero_add, runTicks_nil]⟩
  | cons level mid ih =>
    intro r hr
    rw [List.length_cons] at hr
    have hnext := nextHighRun_le r level
    obtain ⟨run, hrun⟩ := ih (r := nextHighRun r level) (by omega)
    have hcount : (level :: mid).length + n + 1 = mid.length + n + 2 := by rw [List.length_cons]; omega
    exact ⟨run, by rw [hcount, runTicks_cons, tick_timing hp level (by omega), hrun]⟩

/-- After a rising edge and the levels `mid`, `T_SAMPLE_TICKS - mid.length` ticks are still to count, and of the rest of the
core only a due commit has been made. -/
theorem runTicks_risingEdge {s : State} (hsafe : s.Safe) (hrise : s.smpState = .waitRise) {n : Nat} {mid : List Bool}
    (hl : mid.length + n + 1 = s.params.tSampleTicks) :
    ∃ run, runTicks (true :: mid) s = withSampler .timing (n + 1) run (commitIfPending s) := by
  obtain ⟨hw, -, -, -, -, hcounters⟩ := safe_iff.mp hsafe
  obtain ⟨-, -, hstuck⟩ := (wf_iff _).mp hw
  obtain ⟨hcount, hrun⟩ : s.smpCount = 0 ∧ s.highRun = 0 := by simpa [State.CountersSafe, hrise] using hcounters
  have hp := commitIfPending_pubPending s
  have hstart : withSampler .waitRise 0 0 (commitIfPending s) = commitIfPending s :=
    withSampler_self (by simpa using hrise) (by simpa using hcount) (by simpa using hrun)
  have hedge := tick_waitRise hp (r := 0) true (by rw [commitIfPending_params]; exact show 0 + 1 < _ by omega)
  rw [hstart, tick_commitIfPending, if_pos rfl, commitIfPending_params, ← hl] at hedge
  rw [runTicks_cons, hedge]
  exact runTicks_countdown hp n mid (by rw [commitIfPending_params]; omega)

/-- Only the last tick of the countdown classifies (40_sampler.md R122). -/
theorem sampledBit_timing (level : Bool) (n run : Nat) (s : State) :
    sampledBit level (withSampler .timing (n + 1) run s) = if n = 0 then some (!level) else none := by
  simp [sampledBit]

/-- Settles O35: the edge starts the countdown; cut short anywhere it is not at its last tick, and over all of `mid` it is. -/
theorem oneSampleDecidesTheBit : Obligations.OneSampleDecidesTheBit := by
  intro s mid level hsafe hrise hl
  obtain ⟨run, hfull⟩ := runTicks_risingEdge hsafe hrise (n := 0) hl
  rw [hfull]
  refine ⟨fun k l hk => ?early, sampledBit_timing level 0 run _, commitIfPending_syncState s, commitIfPending_acc s⟩
  case early =>
    cases k with
    | zero => simp [sampledBit, hrise]
    | succ k =>
      obtain ⟨n, hn⟩ : ∃ n, s.params.tSampleTicks = k + (n + 1) + 1 := ⟨s.params.tSampleTicks - k - 2, by omega⟩
      have hlen : (mid.take k).length = k := List.length_take_of_le (by omega)
      obtain ⟨run, hcut⟩ := runTicks_risingEdge hsafe hrise (n := n + 1) (mid := mid.take k) (by rw [hlen, hn])
      rw [List.take_succ_cons, hcut, sampledBit_timing, if_neg n.succ_ne_zero]

/-! ### The high run and the stuck-high fault (40_sampler.md R126) -/

theorem runTicks_safe {s : State} (samples : List Bool) (h : s.Safe) : (runTicks samples s).Safe := by
  induction samples generalizing s with
  | nil => exact h
  | cons level samples ih => exact ih (tick_safe level h)

/-- A safe sampler is halted exactly when its high run is full. -/
theorem State.Safe.halted_iff {s : State} (h : s.Safe) : s.smpState = .halted ↔ s.highRun = s.params.tStuckTicks := by
  obtain ⟨-, -, -, -, -, -, -, -, -, hopen, hfull⟩ := h
  exact ⟨hfull, fun hrun => by_contra fun hn => absurd hrun (hopen hn).ne⟩

/-- The fault flag of a safe state shows a full high run. -/
theorem State.Safe.stuckFault_iff {s : State} (h : s.Safe) : s.stuckFault = true ↔ s.highRun = s.params.tStuckTicks := by
  obtain ⟨-, -, -, -, hflag, -⟩ := safe_iff.mp h
  exact hflag.trans h.halted_iff

/-- A tick of a sampler that is not halted counts its sample (40_sampler.md R126). -/
theorem tick_highRun_of_not_halted {s : State} (level : Bool) (hn : s.smpState ≠ .halted) :
    (tick level s).highRun = if level then min (s.highRun + 1) s.params.tStuckTicks else 0 := by
  unfold tick
  rw [if_neg (by simpa using hn)]
  simp [sampleTick]

/-- A halted sampler does nothing at a tick but a due commit (40_sampler.md R127). -/
theorem tick_of_halted {s : State} (level : Bool) (h : s.smpState = .halted) : tick level s = commitIfPending s :=
  if_pos (by simpa using h)

/-- A high sample adds one to the high run until it is full, where the sampler is halted and the run stays. -/
theorem tick_high_highRun {s : State} (h : s.Safe) : (tick true s).highRun = min (s.highRun + 1) s.params.tStuckTicks := by
  by_cases hn : s.smpState = .halted
  · have hfull := h.halted_iff.mp hn
    rw [tick_of_halted true hn, commitIfPending_highRun]
    omega
  · exact tick_highRun_of_not_halted true hn

theorem runTicks_params (samples : List Bool) (s : State) : (runTicks samples s).params = s.params := by
  induction samples generalizing s with
  | nil => rfl
  | cons level samples ih => rw [runTicks_cons, ih, tick_params]

/-- High samples add up in the high run until it is full. -/
theorem runTicks_high_highRun {s : State} (n : Nat) (h : s.Safe) :
    (runTicks (List.replicate n true) s).highRun = min (s.highRun + n) s.params.tStuckTicks := by
  induction n generalizing s with
  | zero =>
    obtain ⟨-, -, -, hle, -⟩ := h
    exact (Nat.min_eq_left hle).symm
  | succ n ih =>
    rw [List.replicate_succ, runTicks_cons, ih (tick_safe true h), tick_high_highRun h, tick_params]
    omega

theorem runTicks_high_full_iff {s : State} (n : Nat) (h : s.Safe) :
    (runTicks (List.replicate n true) s).highRun = (runTicks (List.replicate n true) s).params.tStuckTicks ↔
      s.params.tStuckTicks ≤ s.highRun + n := by
  rw [runTicks_high_highRun n h, runTicks_params, min_eq_right_iff]

/-- A low sample ends the high run, so it leaves no fault where there was none. -/
theorem tick_low_not_stuckFault {s : State} (h : s.Safe) (hn : s.smpState ≠ .halted) : (tick false s).stuckFault = false := by
  obtain ⟨-, -, hstuck⟩ := (wf_iff _).mp h.1
  rw [← Bool.not_eq_true, (tick_safe false h).stuckFault_iff, tick_highRun_of_not_halted false hn, tick_params]
  exact show ¬ 0 = s.params.tStuckTicks by omega

/-- Settles O37: the high run counts the samples, and a safe state is halted, with its flag set, exactly when that run is full. -/
theorem stuckHighIsDetectedInTime : Obligations.StuckHighIsDetectedInTime := by
  intro s n hsafe _ hzero
  have hsafe' := runTicks_safe (List.replicate n true) hsafe
  have hfull := runTicks_high_full_iff n hsafe
  rw [hzero, Nat.zero_add] at hfull
  have hhalted := hsafe'.halted_iff.trans hfull
  have hflag := hsafe'.stuckFault_iff.trans hfull
  refine ⟨fun hfew => ?few, fun hmany => ⟨hhalted.mpr hmany, hflag.mpr hmany⟩⟩
  case few =>
    have hn := mt hhalted.mp hfew.not_ge
    rw [runTicks_append]
    exact ⟨hn, Bool.eq_false_iff.mpr (mt hflag.mp hfew.not_ge), tick_low_not_stuckFault hsafe' hn⟩

/-! ### The halted sampler (40_sampler.md R127; 60_exceptions.md R230) -/

/-- Settles O38: the first tick makes the due commit, and after it no commit is due. -/
theorem haltedTicksOnlyCommit : Obligations.HaltedTicksOnlyCommit := by
  intro s level samples hs
  have hfix : ∀ l, tick l (commitIfPending s) = commitIfPending s := fun l => by
    rw [tick_commitIfPending, tick_of_halted l hs]
  rw [runTicks_cons, tick_of_halted level hs]
  exact List.foldl_fixed' hfix samples

end Sys2Proof.Machine

namespace Sys2Proof.Machine

/-! ### A preamble and its start bit (41_synchronizer.md R147 to R149) -/

/-- A run of ones and a 0 is a preamble with its start bit exactly when it is as long as the search still asks for; a shorter one
starts the search over (41_synchronizer.md R140, R141). -/
theorem feedBits_ones_zero_syncState {s : State} {k : Nat} (hs : s.syncState = .seekPreamble k) (hk : 1 ≤ k)
    (hp : s.pubPending = false) (m : Nat) :
    (feedBits (ones m ++ [false]) s).syncState = if m < k then .seekPreamble 10 else .gathering 31 := by
  rw [feedBits_append, feedBits_ones_seekPreamble m hs hk hp, feedBits_cons, feedBits_nil]
  split
  · rw [feedBit_seekPreamble (setSync_syncState _ s) hp]
    rfl
  · rw [feedBit_seekStartBit (setSync_syncState _ s) hp]
    rfl

/-- While the start bit is sought, a 0 starts a gathering after any number of ones (41_synchronizer.md R141). -/
theorem feedBits_ones_zero_seekStartBit {s : State} (hs : s.syncState = .seekStartBit) (hp : s.pubPending = false) (m : Nat) :
    (feedBits (ones m ++ [false]) s).syncState = .gathering 31 := by
  rw [feedBits_append, feedBits_ones_seekStartBit hs hp, feedBits_cons, feedBits_nil, feedBit_seekStartBit hs hp]
  rfl

/-- Settles O28: the search asks for ten ones. -/
theorem tenOnesMakeAPreamble : Obligations.TenOnesMakeAPreamble := by
  intro s n hs hp
  rw [feedBits_ones_zero_syncState hs (by omega) hp]
  simp only [Nat.lt_succ_iff]

/-- Settles O29: a gathering counts its bits only, and a legal search asks for at most ten ones. -/
theorem synchronizerAlwaysResynchronises : Obligations.SynchronizerAlwaysResynchronises := by
  refine ⟨fun s n bits hs hp => ⟨fun hl => ?some, fun hl => ?all⟩, fun s m hlegal hgather hp hm => ?seek⟩
  case some => rw [feedBits_gathering_some bits hs hp hl, setSync_syncState]
  case all => rw [feedBits_gathering_all hs hp hl, deliverWord_syncState]
  case seek =>
    cases hs : s.syncState with
    | seekPreamble k =>
      obtain ⟨hk, hk10⟩ : 1 ≤ k ∧ k ≤ 10 := by simpa [SyncState.legal, hs] using hlegal
      rw [feedBits_ones_zero_syncState hs hk hp, if_neg (by omega)]
    | seekStartBit => exact feedBits_ones_zero_seekStartBit hs hp m
    | gathering n => exact absurd hs (hgather n)

/-- Settles O32: the first five ones complete the packet's word, and the search that then begins asks for ten more. -/
theorem shortPacketCostsFivePreambleOnes : Obligations.ShortPacketCostsFivePreambleOnes := by
  intro s a i c pre m hs hp hpre hm
  obtain ⟨j, rfl⟩ := Nat.exists_eq_add_of_le hm
  have hones : ones (5 + j) = [true, true, true, true, true] ++ ones j := List.replicate_add ..
  have hword := shortPacketIsGathered s 10 a i c pre true true true true true (.inl ⟨hs, by omega, le_rfl⟩) hp hpre
  rw [hones, ← List.append_assoc, List.append_assoc _ (ones j), feedBits_append, hword,
    feedBits_ones_zero_syncState (deliverWord_syncState _ s) (by omega) (deliverWord_pubPending _ s)]
  have hboundary : j < 10 ↔ ¬ 15 ≤ 5 + j := by omega
  simp only [hboundary, ite_not]

end Sys2Proof.Machine

namespace Sys2Proof.Machine

/-! ### The packet buffer (42_packet_buffer.md R160 to R165) -/

/-- A take empties the slot it read, so a second one finds no word (42_packet_buffer.md R162). -/
theorem takeWord_eq_none_of_taken {s t : State} {w : Word} (h : takeWord s = some (w, t)) : takeWord t = none := by
  obtain ⟨-, -, rfl⟩ := takeWord_eq_some.mp h
  simp [takeWord_eq_none, slot_setSlot]

/-- Whatever the buffer held before, a take after a publication returns the published word, once. -/
theorem exists_takeWord_publish (w : Word) (s : State) :
    ∃ t, takeWord (publishCommit (publishBegin w s)) = some (w, t) ∧ takeWord t = none := by
  have htake : takeWord (publishCommit (publishBegin w s)) = some (w, _) :=
    takeWord_eq_some.mpr ⟨by simp [publishCommit_slot], by simp [publishBegin_cell], rfl⟩
  exact ⟨_, htake, takeWord_eq_none_of_taken htake⟩

/-- A begin writes the other cell and slot, so it commutes with the emptying of the latest slot. -/
theorem publishBegin_setSlot_latest (w : Word) (h : Handoff) (s : State) :
    publishBegin w (s.setSlot s.latest h) = (publishBegin w s).setSlot s.latest h := by
  unfold publishBegin
  rw [State.setSlot_latest]
  rcases cellIndex_cases s.latest with hl | hl <;> rw [hl] <;> rfl

/-- A begin does not touch the word a take returns: the take may come before it or after it (42_packet_buffer.md R162). -/
theorem takeWord_publishBegin {s t : State} {a : Word} (b : Word) (h : takeWord s = some (a, t)) :
    takeWord (publishBegin b s) = some (a, publishBegin b t) := by
  obtain ⟨hready, rfl, rfl⟩ := takeWord_eq_some.mp h
  refine takeWord_eq_some.mpr ⟨?slot, ?word, publishBegin_setSlot_latest b .empty s⟩
  case slot => simpa [publishBegin_slot] using hready
  case word => simp [publishBegin_cell]

/-- Settles O42: the first word, taken or not, is part of the state in which the second is published. -/
theorem supersededWordsAreDropped : Obligations.SupersededWordsAreDropped := by
  intro s a b
  obtain ⟨t, htake, -⟩ := exists_takeWord_publish a s
  obtain ⟨u, hnext⟩ := exists_takeWord_publish b t
  exact ⟨exists_takeWord_publish b _, t, u, htake, hnext⟩

/-- Settles O43: the take may as well have come before the begin. -/
theorem takeBeforeCommitIsStaleButWhole : Obligations.TakeBeforeCommitIsStaleButWhole := by
  intro s a b
  obtain ⟨t, htake, -⟩ := exists_takeWord_publish a s
  obtain ⟨u, hnext⟩ := exists_takeWord_publish b t
  exact ⟨publishBegin b t, u, takeWord_publishBegin b htake, hnext⟩

end Sys2Proof.Machine

namespace Sys2Proof.Machine

/-! ### The merge of one group into the table (43_decoder.md R184, R205) -/

/-- A merge keeps every bit outside its group. -/
theorem getLsbD_mergeGroup_outside {base j : Nat} (h : j < base ∨ base + 4 ≤ j) (t : Table) (pay : Payload) :
    (mergeGroup t base pay).getLsbD j = t.getLsbD j := by
  have hout : ¬ (base ≤ j ∧ j < base + 4) := by omega
  rw [getLsbD_mergeGroup, if_neg hout]
  by_cases hj : j < 13
  · simp [hj]
  · simp [hj, t.getLsbD_of_ge j (by omega)]

/-- The table's own bits of a group take the payload (43_decoder.md R184). -/
theorem getLsbD_mergeGroup_inside {base j : Nat} (hj : j < 13) (h : base ≤ j ∧ j < base + 4) (t : Table) (pay : Payload) :
    (mergeGroup t base pay).getLsbD j = pay.getLsbD (j - base) := by
  rw [getLsbD_mergeGroup, if_pos h, decide_eq_true hj, Bool.true_and]

/-- A group that lies within the table takes the whole payload (43_decoder.md R184). -/
theorem getLsbD_mergeGroup_of_le {base : Nat} (h : base ≤ 9) (t : Table) (pay : Payload) (j : Nat) :
    (mergeGroup t base pay).getLsbD j = if base ≤ j ∧ j < base + 4 then pay.getLsbD (j - base) else t.getLsbD j := by
  split
  next hin => exact getLsbD_mergeGroup_inside (by omega) hin t pay
  next hout => exact getLsbD_mergeGroup_outside (by omega) t pay

/-- The last merge of a group wins. -/
theorem mergeGroup_mergeGroup_same (t : Table) (base : Nat) (p q : Payload) :
    mergeGroup (mergeGroup t base p) base q = mergeGroup t base q := by
  apply BitVec.eq_of_getLsbD_eq
  intro j hj
  by_cases hin : base ≤ j ∧ j < base + 4
  · rw [getLsbD_mergeGroup_inside hj hin, getLsbD_mergeGroup_inside hj hin]
  · have hout : j < base ∨ base + 4 ≤ j := by omega
    rw [getLsbD_mergeGroup_outside hout, getLsbD_mergeGroup_outside hout, getLsbD_mergeGroup_outside hout]

/-- Merges of groups that share no bit may be taken in either order. -/
theorem mergeGroup_comm_of_disjoint {g h : Nat} (hd : g + 4 ≤ h ∨ h + 4 ≤ g) (t : Table) (p q : Payload) :
    mergeGroup (mergeGroup t g p) h q = mergeGroup (mergeGroup t h q) g p := by
  apply BitVec.eq_of_getLsbD_eq
  intro j hj
  by_cases hg : g ≤ j ∧ j < g + 4
  · have hh : j < h ∨ h + 4 ≤ j := by omega
    rw [getLsbD_mergeGroup_outside hh, getLsbD_mergeGroup_inside hj hg, getLsbD_mergeGroup_inside hj hg]
  · have hout : j < g ∨ g + 4 ≤ j := by omega
    rw [getLsbD_mergeGroup_outside hout (mergeGroup t h q)]
    by_cases hh : h ≤ j ∧ j < h + 4
    · rw [getLsbD_mergeGroup_inside hj hh, getLsbD_mergeGroup_inside hj hh]
    · have hout' : j < h ∨ h + 4 ≤ j := by omega
      rw [getLsbD_mergeGroup_outside hout', getLsbD_mergeGroup_outside hout', getLsbD_mergeGroup_outside hout]

/-- Two different ones of the three groups share no bit (30_encoding.md R100). -/
theorem groupBases_disjoint {g h : Nat} (hg : g ∈ [baseF1F4, baseF5F8, baseF9F12]) (hh : h ∈ [baseF1F4, baseF5F8, baseF9F12])
    (hne : g ≠ h) : g + 4 ≤ h ∨ h + 4 ≤ g := by
  simp only [baseF1F4, baseF5F8, baseF9F12, List.mem_cons, List.not_mem_nil, or_false] at hg hh
  omega

/-- Settles O16: the three groups lie within the table's 13 bits. -/
theorem mergeOverwritesItsGroup : Obligations.MergeOverwritesItsGroup := by
  refine ⟨fun t base pay hbase => ⟨rfl, getLsbD_mergeGroup_of_le (by omega) t pay⟩, by decide⟩

/-- Settles O17: idempotence is the last merge winning over an equal one. -/
theorem mergeGroupLaws : Obligations.MergeGroupLaws := by
  intro t g h p q hg hh
  exact ⟨fun j hj => getLsbD_mergeGroup_outside hj t p, mergeGroup_mergeGroup_same t g p p,
    fun hne => mergeGroup_comm_of_disjoint (groupBases_disjoint hg hh hne) t p q, mergeGroup_mergeGroup_same t g p q⟩

/-! ### GROUP and the dispatch by instruction (43_decoder.md R185) -/

/-- GROUP on a byte given by its selector and its payload. -/
theorem groupUpdate_append (sel : Selector) (pay : Payload) (t : Table) :
    groupUpdate (sel ++ pay) t =
      if sel = 0b1000 ∨ sel = 0b1001 then mergeGroup t baseF1F4 pay
      else if sel = 0b1011 then mergeGroup t baseF5F8 pay
      else if sel = 0b1010 then mergeGroup t baseF9F12 pay
      else t := by
  rw [groupUpdate, selectorOf_append, payloadOf_append]

/-- Row by row, an instruction does to the table what GROUP does with its byte, and nothing else. -/
theorem exec_eq_groupUpdate (i : Instr) (s : State) : exec i s = .next { s with fbt := groupUpdate (encode i) s.fbt } := by
  rw [encode, groupUpdate_append]
  cases i <;> rfl

theorem exec_decode (b : Byte) (s : State) : exec (decode b) s = .next { s with fbt := groupUpdate b s.fbt } := by
  rw [exec_eq_groupUpdate, encode_decode]

/-- Settles O15: the instruction of a byte encodes to that byte again. -/
theorem dispatchIsGroup : Obligations.DispatchIsGroup := by
  intro sel pay s
  have hgroup := exec_decode (sel ++ pay) s
  exact ⟨groupUpdate_append sel pay s.fbt ▸ hgroup, hgroup⟩

/-! ### DECODE (43_decoder.md R178) -/

/-- DECODE is GROUP on an accepted word, and keeps the table on any other. -/
theorem decodeTable_eq (p : Params) (w : Word) (t : Table) :
    decodeTable p w t = if accepts p w then groupUpdate (instrField p w) t else t := by
  unfold decodeTable accepts gatePasses addrMatches
  by_cases haddr : addrField p w = p.targetAddr
  · cases p.checksumGate <;> cases checksumOk p w <;> simp [haddr]
  · simp [haddr]

/-- DECODE of the well-formed word that carries a byte to this target is GROUP on that byte. -/
theorem decodeTable_wordFor (p : Params) (b : Byte) (t : Table) : decodeTable p (p.wordFor b) t = groupUpdate b t := by
  rw [decodeTable_eq, if_pos (accepts_wordFor p b), instrField_wordFor]

/-- The well-formed word for a target of the short form (30_encoding.md R93). -/
theorem wordFor_of_target {p : Params} {a : Address} (h : p.targetAddr = a) (ha : a.toNat ≤ 127) (b : Byte) :
    p.wordFor b = packShort (a.setWidth 8) b (a.setWidth 8 ^^^ b) 0b111111 := by
  rw [Params.wordFor, if_pos ((shortMode_iff p).mpr (h ▸ ha)), h]

/-- An example word of the rules, read: the target's short address, a byte and their XOR. -/
theorem decodeTable_exampleWord {p : Params} {a : Address} {w : Word} (b : Byte) (h : p.targetAddr = a) (ha : a.toNat ≤ 127)
    (hw : packShort (a.setWidth 8) b (a.setWidth 8 ^^^ b) 0b111111 = w) (t : Table) : decodeTable p w t = groupUpdate b t := by
  rw [← hw, ← wordFor_of_target h ha, decodeTable_wordFor]

/-- Settles O24: a wrong checksum is not accepted with the gate on, and acceptance is the address test alone with it off. -/
theorem checksumGateDiscards : Obligations.ChecksumGateDiscards := by
  refine ⟨fun p w t hgate hbad => ?on, fun p w t hgate => ?off⟩
  case on =>
    have hno : accepts p w = false := by simp [accepts, gatePasses, hgate, hbad]
    rw [decodeTable_eq, hno, if_neg Bool.false_ne_true]
  case off =>
    have haddr : accepts p w = decide (addrField p w = p.targetAddr) := by
      simp [accepts, gatePasses, addrMatches, hgate, beq_eq_decide]
    rw [decodeTable_eq, haddr]
    simp only [decide_eq_true_eq]

/-! ### The instructions one by one (43_decoder.md R186 to R201) -/

/-- Settles O9: the merge at base 1; that a repeat changes nothing is the last merge winning over an equal one. -/
theorem f1F4AWritesItsGroup : Obligations.F1F4AWritesItsGroup := by
  refine ⟨fun pay s => ⟨{ s with fbt := mergeGroup s.fbt 1 pay }, rfl, rfl, ?bits, ?again, rfl, ?group, rfl⟩,
    fun p hp => ?rule⟩
  case bits => simpa [Nat.lt_succ_iff] using getLsbD_mergeGroup_of_le (by decide : 1 ≤ 9) s.fbt pay
  case again => exact congrArg (fun t => Host.Outcome.next { s with fbt := t }) (mergeGroup_mergeGroup_same s.fbt 1 pay pay)
  case group => exact groupUpdate_append 0b1000 pay s.fbt
  case rule =>
    rw [decodeTable_exampleWord 0x85 hp (by decide) (by decide)]
    decide

/-- Settles O10: both selectors run the same merge. -/
theorem f1F4BWritesTheSameGroup : Obligations.F1F4BWritesTheSameGroup := by
  refine fun pay s => ⟨{ s with fbt := mergeGroup s.fbt 1 pay }, rfl, rfl, rfl, ?bits, rfl⟩
  case bits => simpa [Nat.lt_succ_iff] using getLsbD_mergeGroup_of_le (by decide : 1 ≤ 9) s.fbt pay

/-- Settles O11: the merge at base 9. -/
theorem f9F12WritesItsGroup : Obligations.F9F12WritesItsGroup := by
  refine ⟨fun pay s => ⟨{ s with fbt := mergeGroup s.fbt 9 pay }, rfl, rfl, ?bits, rfl, ?group, rfl⟩,
    fun p => ⟨fun hp => ?rule3, fun hp => ?rule82⟩⟩
  case bits => simpa [Nat.lt_succ_iff] using getLsbD_mergeGroup_of_le (by decide : 9 ≤ 9) s.fbt pay
  case group => exact groupUpdate_append 0b1010 pay s.fbt
  case rule3 =>
    rw [decodeTable_exampleWord 0xA5 hp (by decide) (by decide)]
    decide
  case rule82 =>
    rw [decodeTable_exampleWord 0xA9 hp (by decide) (by decide)]
    decide

/-- Settles O12: the merge at base 5; the scenario's payload is `0b0101`. -/
theorem f5F8WritesItsGroup : Obligations.F5F8WritesItsGroup := by
  refine ⟨fun pay s => ⟨{ s with fbt := mergeGroup s.fbt 5 pay }, rfl, rfl, ?bits, rfl, ?group, rfl⟩,
    fun p => ⟨fun hp => ?rule, fun hp t j => ?scenario⟩⟩
  case bits => simpa [Nat.lt_succ_iff] using getLsbD_mergeGroup_of_le (by decide : 5 ≤ 9) s.fbt pay
  case group => exact groupUpdate_append 0b1011 pay s.fbt
  case rule =>
    rw [decodeTable_exampleWord 0xB5 hp (by decide) (by decide)]
    decide
  case scenario =>
    have hmerge : decodeTable p 0x525AB9FF t = mergeGroup t 5 0b0101 :=
      (decodeTable_exampleWord 0xB5 hp (by decide) (by decide) t).trans (groupUpdate_append 0b1011 0b0101 t)
    rw [hmerge, getLsbD_mergeGroup_of_le (by decide)]
    split
    next hj =>
      obtain rfl | rfl | rfl | rfl : j = 5 ∨ j = 6 ∨ j = 7 ∨ j = 8 := by omega
      all_goals rfl
    next hj => rw [if_neg (by omega), if_neg (by omega)]

/-- The rules' examples for target 3: well-formed words with the payload `0b0101`, each accepted and decoded by GROUP. -/
theorem exampleWords_accepted {p : Params} {sels : List Selector} {ws : List Word} {w : Word} (h : p.targetAddr = 3)
    (hws : ws = sels.map fun sel => packShort 3 (sel ++ 5#4) (3 ^^^ (sel ++ 5#4)) 0b111111) (hw : w ∈ ws) :
    accepts p w = true ∧ ∃ sel ∈ sels, ∀ t, decodeTable p w t = groupUpdate (sel ++ 5#4) t := by
  rw [hws, List.mem_map] at hw
  obtain ⟨sel, hsel, rfl⟩ := hw
  have hword : p.wordFor (sel ++ 5#4) = packShort 3 (sel ++ 5#4) (3 ^^^ (sel ++ 5#4)) 0b111111 :=
    wordFor_of_target h (by decide) _
  rw [← hword]
  exact ⟨accepts_wordFor _ _, sel, hsel, decodeTable_wordFor _ _⟩

/-- GROUP keeps the table under the twelve selectors with no action. -/
theorem groupUpdate_append_of_no_group {sel : Selector} (h : sel ∉ [0b1000, 0b1001, 0b1011, 0b1010]) (pay : Payload)
    (t : Table) : groupUpdate (sel ++ pay) t = t := by
  simp only [List.mem_cons, List.not_mem_nil, or_false, not_or] at h
  obtain ⟨ha, hb, h5, h9⟩ := h
  rw [groupUpdate_append, if_neg (not_or.mpr ⟨ha, hb⟩), if_neg h5, if_neg h9]

/-- Settles O13: the selectors belong to no group; so does the idle packet's, whether its word is accepted or not. -/
theorem otherSelectorsChangeNothing : Obligations.OtherSelectorsChangeNothing := by
  have hnone : ∀ sel ∈ [0b0000, 0b0001, 0b0010, 0b1100, 0b1101, 0b1110, 0b1111#4],
      sel ∉ [0b1000, 0b1001, 0b1011, 0b1010#4] := by decide
  refine ⟨fun pay s => ⟨rfl, rfl, rfl, rfl, rfl, rfl, rfl⟩,
    fun sel pay t hsel => groupUpdate_append_of_no_group (hnone sel hsel) pay t, fun p w hp hw => ?rules, fun p t hp => ?idle⟩
  case rules =>
    obtain ⟨hacc, sel, hsel, hdec⟩ :=
      exampleWords_accepted (sels := [0b0000, 0b0001, 0b0010, 0b1100, 0b1101, 0b1110, 0b1111]) hp (by decide) hw
    exact ⟨hacc, by rw [hdec, groupUpdate_append_of_no_group (hnone sel hsel)]⟩
  case idle =>
    have hshort : p.shortMode = true := (shortMode_iff p).mpr (by rw [hp]; decide)
    have hinstr : instrField p 0xFF003FFF = 0b0000#4 ++ 0b0000#4 := by rw [instrField, if_pos hshort]; decide
    refine ⟨by rw [addrField, if_pos hshort]; decide, ?_⟩
    rw [decodeTable_eq, hinstr, groupUpdate_append_of_no_group (by decide), ite_self]

/-- Settles O14: the selectors belong to no group. -/
theorem speedSelectorsChangeNothing : Obligations.SpeedSelectorsChangeNothing := by
  have hnone : ∀ sel ∈ [0b0011, 0b0100, 0b0101, 0b0110, 0b0111#4], sel ∉ [0b1000, 0b1001, 0b1011, 0b1010#4] := by decide
  refine ⟨fun pay s => ⟨rfl, rfl, rfl, rfl, rfl⟩,
    fun sel pay t hsel => groupUpdate_append_of_no_group (hnone sel hsel) pay t, fun p w hp hw => ?rules⟩
  obtain ⟨hacc, sel, hsel, hdec⟩ := exampleWords_accepted (sels := [0b0011, 0b0100, 0b0101, 0b0110, 0b0111]) hp (by decide) hw
  exact ⟨hacc, by rw [hdec, groupUpdate_append_of_no_group (hnone sel hsel)]⟩

end Sys2Proof.Machine

namespace Sys2Proof.Machine

/-! ### Which bits of a word DECODE reads (43_decoder.md R178 to R183, R203) -/

/-- A field of a word is given by its own bits. -/
theorem extractLsb'_congr {w v : Word} {start len : Nat} (h : ∀ j < len, w.getLsbD (start + j) = v.getLsbD (start + j)) :
    w.extractLsb' start len = v.extractLsb' start len := by
  apply BitVec.eq_of_getLsbD_eq
  intro j hj
  rw [BitVec.getLsbD_extractLsb', BitVec.getLsbD_extractLsb', h j hj]

/-- DECODE reads a word through its checksum test, its address and its instruction byte only. -/
theorem decodeTable_congr {p : Params} {w v : Word} (hc : checksumOk p w = checksumOk p v)
    (ha : addrField p w = addrField p v) (hi : instrField p w = instrField p v) (t : Table) :
    decodeTable p w t = decodeTable p v t := by
  rw [decodeTable, decodeTable, hc, ha, hi]

/-- Settles O8: the fields above bit 5 lie between the separators, and only the long form reads a field below bit 5. -/
theorem separatorsAreNotRead : Obligations.SeparatorsAreNotRead := by
  intro p w v t h
  have hfield (start len : Nat)
      (hs : 6 ≤ start ∧ start + len ≤ 32 ∧ (start + len ≤ 23 ∨ 23 < start) ∧ (start + len ≤ 14 ∨ 14 < start)) :
      w.extractLsb' start len = v.extractLsb' start len :=
    extractLsb'_congr fun j hj => h _ (by omega) (by omega) (by omega) (fun _ => by omega) fun _ => by omega
  have hbyte1 := hfield 24 8 (by decide)
  have hbyte2 := hfield 15 8 (by decide)
  have hbyte3 := hfield 6 8 (by decide)
  cases hm : p.shortMode with
  | true =>
    have haddr := hfield 24 7 (by decide)
    apply decodeTable_congr
    · simp [checksumOk, hm, chkShort, hbyte1, hbyte2, hbyte3]
    · simp [addrField, hm, shortAddr, haddr]
    · simp [instrField, hm, shortInstr, hbyte2]
  | false =>
    have haddr := hfield 24 6 (by decide)
    have hchk : w.extractLsb' 0 5 = v.extractLsb' 0 5 :=
      extractLsb'_congr fun j hj => h _ (by omega) (by omega) (by omega) (by simp [hm]) fun _ => by omega
    apply decodeTable_congr
    · simp [checksumOk, hm, chkLong, hbyte1, hbyte2, hbyte3, hchk]
    · simp [addrField, hm, longAddr, haddr, hbyte2]
    · simp [instrField, hm, longInstr, hbyte3]

/-! ### The two checksums (43_decoder.md R181, R182) -/

theorem chkShort_packShort (a i c : Byte) (tail : BitVec 6) : chkShort (packShort a i c tail) = (a ^^^ i ^^^ c == 0#8) := by
  rw [chkShort, packShort_addr, packShort_instr, packShort_chk]

theorem chkLong_packLong (b1 b2 i : Byte) (c : BitVec 5) :
    chkLong (packLong b1 b2 i c) = ((b1 ^^^ b2 ^^^ i).extractLsb' 3 5 == c) := by
  rw [chkLong, packLong_addr1, packLong_addr2, packLong_instr, packLong_chk]

/-- Bits `[7:3]` of two bytes agree exactly when the bytes agree at each of the five positions. -/
theorem extractLsb'_three_five_eq_iff {x y : Byte} :
    x.extractLsb' 3 5 = y.extractLsb' 3 5 ↔ ∀ j, 3 ≤ j → j < 8 → y.getLsbD j = x.getLsbD j := by
  constructor
  · intro h j hj hj8
    have hbit := congrArg (fun z : BitVec 5 => z.getLsbD (j - 3)) h
    simp only [BitVec.getLsbD_extractLsb', show j - 3 < 5 by omega, show 3 + (j - 3) = j by omega, decide_true,
      Bool.true_and] at hbit
    exact hbit.symm
  · intro h
    apply BitVec.eq_of_getLsbD_eq
    intro j hj
    rw [BitVec.getLsbD_extractLsb', BitVec.getLsbD_extractLsb', h (3 + j) (by omega) (by omega)]

/-- Settles O5: the XOR of three bytes is zero exactly when the third is the XOR of the other two. -/
theorem shortChecksumIsXor : Obligations.ShortChecksumIsXor := by
  intro a i c tail
  rw [chkShort_packShort, beq_iff_eq]
  exact ⟨Iff.rfl, BitVec.xor_eq_zero_iff.trans eq_comm⟩

/-- Settles O6: the word holds `C[7:3]` alone. -/
theorem longChecksumIsFiveBits : Obligations.LongChecksumIsFiveBits := by
  intro b1 b2 i c
  rw [chkLong_packLong, beq_iff_eq, extractLsb'_three_five_eq_iff]

/-- DECODE of a short-form word, from its fields (43_decoder.md R178, R179). -/
theorem decodeTable_packShort {p : Params} (hshort : p.shortMode = true) (a i c : Byte) (tail : BitVec 6) (t : Table) :
    decodeTable p (packShort a i c tail) t =
      if p.checksumGate = true ∧ a ^^^ i ^^^ c ≠ 0 then t
      else if (a.extractLsb' 0 7).setWidth 14 = p.targetAddr then groupUpdate i t else t := by
  have hok : checksumOk p (packShort a i c tail) = (a ^^^ i ^^^ c == 0#8) := by
    rw [checksumOk, if_pos hshort, chkShort_packShort]
  have haddr : addrField p (packShort a i c tail) = (a.extractLsb' 0 7).setWidth 14 := by
    rw [addrField, if_pos hshort, packShort_shortAddr]
  have hinstr : instrField p (packShort a i c tail) = i := by
    rw [instrField, if_pos hshort, shortInstr, packShort_instr]
  rw [decodeTable, hok, haddr, hinstr]
  simp only [Bool.and_eq_true, Bool.not_eq_true', beq_eq_false_iff_ne, bne_iff_ne, ite_not]
  rfl

/-! ### Packets from the line -/

/-- Settles O7: bit for bit the packet is a long one, and its word's bits are those of a short word with `I2` for the checksum. -/
theorem secondInstructionByteIsReadAsChecksum : Obligations.SecondInstructionByteIsReadAsChecksum := by
  refine ⟨fun s k a i1 i2 c pre hs hp hpre => ?gathered,
    fun p a i1 i2 tail t hshort => decodeTable_packShort hshort a i1 i2 tail t, fun p hp => ?rule⟩
  case gathered =>
    rw [pktTwoInstr_eq_pktLong, packShort_eq_packLong]
    exact longPacketIsGathered s k a i1 i2 c pre hs hp hpre
  case rule =>
    have hword : packShort 0x03 0x85 0xB3 (0#1 ++ (0x35 : Byte).extractLsb' 3 5) = 0x0342ACC6 := by decide
    have hshort : p.shortMode = true := (shortMode_iff p).mpr (by rw [hp]; decide)
    refine ⟨hword, ?_⟩
    rw [← hword, decodeTable_packShort hshort, hp]
    cases p.checksumGate <;> decide

/-- A long packet delivers its word; the four bits after the word are too few to end the next preamble search
(30_encoding.md R94). -/
theorem feedBits_pktLong {s : State} {pre : Nat} (b1 b2 i c : Byte) (hs : s.syncState = .seekPreamble 10)
    (hp : s.pubPending = false) (hpre : 10 ≤ pre) :
    ∃ x, feedBits (pktLong b1 b2 i c pre) s = setSync x (deliverWord (packLong b1 b2 i (c.extractLsb' 3 5)) s) := by
  rw [longPacketIsGathered s 10 b1 b2 i c pre (.inl ⟨hs, by omega, le_rfl⟩) hp hpre]
  exact feedBits_seekPreamble_few _ (deliverWord_syncState _ s) rfl le_rfl (by simp)

/-- The two address bytes determine the address (30_encoding.md R92). -/
theorem longBytes_injective {a b : Address} (h1 : longByte1 a = longByte1 b) (h2 : longByte2 a = longByte2 b) : a = b := by
  rw [← longBytes_addr a, h1, h2, longBytes_addr]

/-- Settles O4: the packet's word stands in the latest cell, and its two address bytes put together are the address. -/
theorem longAddressRoundTrip : Obligations.LongAddressRoundTrip := by
  refine ⟨fun s a i pre hs hp hpre _ _ => ?_, fun a b => longBytes_injective⟩
  obtain ⟨x, hx⟩ := feedBits_pktLong (longByte1 a) (longByte2 a) i (longByte1 a ^^^ longByte2 a ^^^ i) hs hp hpre
  rw [hx]
  simp

/-- Settles O1: each word, cut into its fields. -/
theorem exampleWordsDecode : Obligations.ExampleWordsDecode := by
  unfold Obligations.ExampleWordsDecode
  decide

end Sys2Proof.Machine

namespace Sys2Proof.Machine

/-! ### What each decoder step does where it is enabled (43_decoder.md R175 to R177) -/

/-- `DEC_APPLY` in `APPLY` writes DECODE of the taken word into the table and moves the phase on, accepted word or not. -/
theorem decApply_of_apply {s : State} (hd : s.decPhase = .apply) :
    decApply s = .next { s with fbt := decodeTable s.params s.decWord s.fbt, decPhase := .finish } := by
  rw [decApply, if_pos hd, decodeTable_eq]
  cases accepts s.params s.decWord with
  | true => rw [if_pos rfl, exec_decode]; rfl
  | false => rfl

theorem decEnd_of_finish {s : State} (hd : s.decPhase = .finish) : decEnd s = { s with busy := false, decPhase := .idle } :=
  if_pos hd

theorem step_decStart {s : State} (h : s.Running) (hn : s.nextStep = .decStart) (hd : s.decPhase = .idle)
    (hr : s.slot s.latest = .ready) :
    step s = .next { s.consume.setSlot s.latest .empty with busy := true, decWord := s.cell s.latest, decPhase := .apply } := by
  rw [step_of_running h (by rw [hn]; rfl), hn]
  exact congrArg Host.Outcome.next (decStart_of_ready (s := s.consume) hd hr)

theorem step_decApply {s : State} (h : s.Running) (hn : s.nextStep = .decApply) (hd : s.decPhase = .apply) :
    step s = .next { s.consume with fbt := decodeTable s.params s.decWord s.fbt, decPhase := .finish } := by
  rw [step_of_running h (by rw [hn]; rfl), hn]
  exact decApply_of_apply (s := s.consume) hd

theorem step_decEnd {s : State} (h : s.Running) (hn : s.nextStep = .decEnd) (hd : s.decPhase = .finish) :
    step s = .next { s.consume with busy := false, decPhase := .idle } := by
  rw [step_of_running h (by rw [hn]; rfl), hn]
  exact congrArg Host.Outcome.next (decEnd_of_finish (s := s.consume) hd)

/-- A button read with the guard cleared gives the table's bit (44_interface.md R210). -/
theorem readButton_of_not_busy {s : State} {k : BitVec 4} (hb : s.busy = false) (hk : k.toNat ≤ 12) :
    readButton k s = some (s.fbt.getLsbD k.toNat) := by
  rw [readButton, if_neg (Bool.eq_false_iff.mp hb), if_neg (show ¬ Config.maxButton < k.toNat from Nat.not_lt.mpr hk)]

theorem readButton_of_busy {s : State} (k : BitVec 4) (hb : s.busy = true) : readButton k s = none := if_pos hb

/-- Settles O21: the word is taken whether or not its address matches. -/
theorem startTakesTheLatestWord : Obligations.StartTakesTheLatestWord := fun _ => step_decStart

/-- Settles O20: DECODE itself decides what of the table stays; the rule's example is the one of R194. -/
theorem applyWritesDecode : Obligations.ApplyWritesDecode :=
  ⟨fun _ => step_decApply, f1F4AWritesItsGroup.2⟩

/-- Settles O22: by R40 (5) the guard is set in `APPLY` and in `END`. -/
theorem endClearsTheGuard : Obligations.EndClearsTheGuard := by
  refine ⟨fun s i hinv hd => ?_, fun _ => step_decEnd⟩
  obtain ⟨-, -, -, -, hbusy, -⟩ := hinv
  exact readButton_of_busy i (hbusy.mpr hd)

/-- A word for another address is not decoded into the table (43_decoder.md R204). -/
theorem decodeTable_of_addr_ne {p : Params} {w : Word} (h : addrField p w ≠ p.targetAddr) (t : Table) :
    decodeTable p w t = t := by
  have hno : accepts p w = false := by simp [accepts, addrMatches, h]
  rw [decodeTable_eq, hno, if_neg Bool.false_ne_true]

/-- Settles O25: a legal target is at least 1, so address 0 is another address. -/
theorem onlyTheExactAddressMatches : Obligations.OnlyTheExactAddressMatches := by
  intro s h hn hd haddr
  obtain ⟨⟨htarget, -⟩, -⟩ := (wf_iff s.params).mp h.1
  have hne : addrField s.params s.decWord ≠ s.params.targetAddr := by
    rcases haddr with hne | hzero
    · exact hne
    · intro he
      rw [← he, hzero] at htarget
      exact absurd htarget (by decide)
  rw [step_decApply h hn hd, decodeTable_of_addr_ne hne]
  rfl

/-- Settles O18: the step is `DEC_APPLY` on an accepted word. -/
theorem stepRunsTheDecodedInstruction : Obligations.StepRunsTheDecodedInstruction := by
  intro s i h hn hd hacc hi
  subst hi
  rw [step_of_running h (by rw [hn]; rfl), hn]
  exact (if_pos hd).trans (if_pos hacc)

/-! ### Whole decodes -/

/-- The invariants of 10_state.md R40, sorted by the part of the core they speak of. -/
theorem inv_iff {s : State} : s.Inv ↔ s.BufferSafe ∧ s.DecoderSafe ∧ s.countInWindow ∧ s.faultWhileHalted := by
  constructor
  · rintro ⟨h1, h2, h3, -, h5, h6, h7, h8⟩
    exact ⟨⟨h1, h2, h3⟩, ⟨h5, h6⟩, h7, h8⟩
  · rintro ⟨⟨h1, h2, h3⟩, ⟨h5, h6⟩, h7, h8⟩
    exact ⟨h1, h2, h3, atMostOneReady_of_otherNotReady h2, h5, h6, h7, h8⟩

theorem takeLatest_inv {s : State} (h : s.Inv) : (s.setSlot s.latest .empty).Inv := by
  obtain ⟨hbuf, hdec, hcount, hfault⟩ := inv_iff.mp h
  exact inv_iff.mpr ⟨takeLatest_bufferSafe hbuf, hdec, hcount, hfault⟩

/-- The guard is set and the phase is `APPLY`, as R40 (5) asks. -/
theorem beginDecode_inv {s : State} (w : Word) (h : s.Inv) : (beginDecode w s).Inv := by
  obtain ⟨hbuf, ⟨-, h0⟩, hcount, hfault⟩ := inv_iff.mp h
  exact inv_iff.mpr ⟨hbuf, ⟨⟨fun _ => .inl rfl, fun _ => rfl⟩, h0⟩, hcount, hfault⟩

/-- No group has F0 in it (43_decoder.md R185). -/
theorem groupUpdate_f0 (b : Byte) (t : Table) : (groupUpdate b t).getLsbD 0 = t.getLsbD 0 := by
  unfold groupUpdate
  split_ifs
  · exact mergeGroup_f0 _ (by decide)
  · exact mergeGroup_f0 _ (by decide)
  · exact mergeGroup_f0 _ (by decide)
  · rfl

theorem decodeTable_f0 (p : Params) (w : Word) (t : Table) : (decodeTable p w t).getLsbD 0 = t.getLsbD 0 := by
  rw [decodeTable_eq]
  split
  · exact groupUpdate_f0 _ t
  · rfl

/-- DECODE keeps F0 false, and the guard stays set from `APPLY` to `END`. -/
theorem applyDecode_inv {s : State} (hd : s.decPhase = .apply) (h : s.Inv) :
    ({ s with fbt := decodeTable s.params s.decWord s.fbt, decPhase := .finish } : State).Inv := by
  obtain ⟨hbuf, ⟨hbusy, h0⟩, hcount, hfault⟩ := inv_iff.mp h
  exact inv_iff.mpr ⟨hbuf, ⟨⟨fun _ => .inr rfl, fun _ => hbusy.mpr (.inl hd)⟩, (decodeTable_f0 _ _ _).trans h0⟩, hcount,
    hfault⟩

/-- Placing a byte is taking its word: the next step is a `DEC_APPLY` with the invariants whole. -/
theorem placeInstrByte_running {s : State} (b : Byte) (hw : s.params.wf = true) (hi : s.Inv) : (placeInstrByte b s).Running :=
  ⟨hw, beginDecode_inv (s.params.wordFor b) hi, rfl⟩

/-- A placed byte's word is accepted, so the next step is the byte's instruction and the move to `END`. -/
theorem step_placeInstrByte {s : State} (b : Byte) (hw : s.params.wf = true) (hi : s.Inv) :
    step (placeInstrByte b s) = afterApply (exec (decode b) { placeInstrByte b s with schedule := s.schedule }) :=
  stepRunsTheDecodedInstruction _ _ (placeInstrByte_running b hw hi) rfl rfl (accepts_wordFor s.params b)
    (congrArg decode (instrField_wordFor s.params b))

/-- Settles O19: the eight table bits are the instruction's byte, and no instruction stops the machine. -/
theorem placedInstructionRunsNext : Obligations.PlacedInstructionRunsNext := by
  intro s w i hw hi hdec
  obtain ⟨-, -, rfl⟩ := decodeTableWord_eq_some_iff.mp hdec
  obtain ⟨t, ht⟩ := exec_completes (decode (BitVec.ofNat 8 w)) { s.withFetchWord 8 w with schedule := s.schedule }
  exact ⟨t, ht, (step_placeInstrByte (BitVec.ofNat 8 w) hw hi).trans (congrArg afterApply ht)⟩

/-- A decoder that finds a word ready takes it, and the machine runs on. -/
theorem exists_step_decStart {s : State} (h : s.Running) (hn : s.nextStep = .decStart) (hd : s.decPhase = .idle)
    (hr : s.slot s.latest = .ready) :
    ∃ t, step s = .next t ∧ t.Running ∧ t.schedule = s.schedule.tail ∧ t.params = s.params ∧ t.fbt = s.fbt ∧
      t.decPhase = .apply ∧ t.decWord = s.cell s.latest := by
  obtain ⟨hw, hi, hrst⟩ := h
  exact ⟨_, step_decStart ⟨hw, hi, hrst⟩ hn hd hr, ⟨hw, beginDecode_inv _ (takeLatest_inv hi), hrst⟩,
    rfl, rfl, rfl, rfl, rfl⟩

/-- A `DEC_APPLY` that is due writes DECODE of its word, and the machine runs on. -/
theorem exists_step_decApply {s : State} (h : s.Running) (hn : s.nextStep = .decApply) (hd : s.decPhase = .apply) :
    ∃ t, step s = .next t ∧ t.Running ∧ t.schedule = s.schedule.tail ∧ t.decPhase = .finish ∧
      t.fbt = decodeTable s.params s.decWord s.fbt := by
  obtain ⟨hw, hi, hrst⟩ := h
  exact ⟨_, step_decApply ⟨hw, hi, hrst⟩ hn hd, ⟨hw, applyDecode_inv hd hi, hrst⟩, rfl, rfl, rfl⟩

theorem nextStep_of_schedule {s : State} {a : AgentStep} {rest : List AgentStep} (h : s.schedule = a :: rest) :
    s.nextStep = a := by
  rw [State.nextStep, h]

/-- A whole decode of a ready word, from `DEC_START` to `DEC_END`, leaves DECODE of the word in the table (43_decoder.md R175 to
R177). -/
theorem run_decode {s : State} {rest : List AgentStep} (h : s.Running) (hd : s.decPhase = .idle)
    (hr : s.slot s.latest = .ready) (hs : s.schedule = .decStart :: .decApply :: .decEnd :: rest) :
    ∃ t, Sys2Proof.core.run 3 s = .next t ∧ t.schedule = rest ∧ t.decPhase = .idle ∧ t.busy = false ∧
      t.fbt = decodeTable s.params (s.cell s.latest) s.fbt := by
  obtain ⟨t, hstart, htrun, htsched, htparams, htfbt, htphase, htword⟩ :=
    exists_step_decStart h (nextStep_of_schedule hs) hd hr
  rw [hs, List.tail_cons] at htsched
  obtain ⟨u, happly, hurun, husched, huphase, hufbt⟩ := exists_step_decApply htrun (nextStep_of_schedule htsched) htphase
  rw [htsched, List.tail_cons] at husched
  rw [htparams, htword, htfbt] at hufbt
  have hcore (x : State) : Sys2Proof.core.step x = step x := rfl
  have hend := step_decEnd hurun (nextStep_of_schedule husched) huphase
  refine ⟨{ u.consume with busy := false, decPhase := .idle }, ?run, congrArg List.tail husched, rfl, rfl, hufbt⟩
  case run => simp only [Host.Core.run, hcore, hstart, happly, hend]

/-- GROUP on the byte of a function-group instruction merges its payload at its group's base (43_decoder.md R194 to R197). -/
theorem groupUpdate_encode_group {base : Nat} {i : Instr} {pay : Payload}
    (h : (base, i) ∈ [(1, .fgF1F4A pay), (1, .fgF1F4B pay), (9, .fgF9F12 pay), (5, .fgF5F8 pay)]) (t : Table) :
    base ≤ 9 ∧ groupUpdate (encode i) t = mergeGroup t base pay := by
  simp only [List.mem_cons, Prod.mk.injEq, List.not_mem_nil, or_false] at h
  obtain ⟨rfl, rfl⟩ | ⟨rfl, rfl⟩ | ⟨rfl, rfl⟩ | ⟨rfl, rfl⟩ := h
  · exact ⟨by decide, groupUpdate_append 0b1000 pay t⟩
  · exact ⟨by decide, groupUpdate_append 0b1001 pay t⟩
  · exact ⟨by decide, groupUpdate_append 0b1010 pay t⟩
  · exact ⟨by decide, groupUpdate_append 0b1011 pay t⟩

/-- Settles O26: the decode leaves the merge in the table, and with the guard cleared the host reads the table. -/
theorem decodedButtonsReadBack : Obligations.DecodedButtonsReadBack := by
  intro s base i pay rest h hd hr hi hw hs
  obtain ⟨t, hrun, htsched, htphase, htbusy, htfbt⟩ := run_decode h hd hr hs
  obtain ⟨hbase, hgroup⟩ := groupUpdate_encode_group hi s.fbt
  rw [hw, decodeTable_wordFor, hgroup] at htfbt
  refine ⟨t, hrun, htsched, htphase, fun k hk => ?_⟩
  rw [readButton_of_not_busy htbusy hk, htfbt, getLsbD_mergeGroup_of_le hbase]

end Sys2Proof.Machine

namespace Sys2Proof.Machine

/-! ### The host's reads (44_interface.md R210 to R213) -/

/-- No button stands above index 12 (decision D18 of the spec). -/
theorem readButton_of_maxButton_lt (s : State) {i : BitVec 4} (hi : Config.maxButton < i.toNat) : readButton i s = none := by
  rw [readButton, if_pos hi, ite_self]

/-- Where the last button read gave no value, both ports are 0 (44_interface.md R210, port form). -/
theorem readPorts_of_reply_none {t : State} (h : t.reply = .button none) : rdValid t = false ∧ rdValue t = false := by
  simp [rdValid, rdValue, h]

/-- Where the last button read gave a value, `rd_valid` is 1 and `rd_value` is that value (44_interface.md R210, port form). -/
theorem readPorts_of_reply_some {t : State} {b : Bool} (h : t.reply = .button (some b)) : rdValid t = true ∧ rdValue t = b := by
  simp [rdValid, rdValue, h]

theorem step_readButton {s : State} {i : BitVec 4} (h : s.Running) (hn : s.nextStep = .readButton i) :
    step s = .next (readButtonStep i s.consume) := by
  rw [step_of_running h (by rw [hn]; rfl), hn]
  rfl

theorem step_readStatus {s : State} (h : s.Running) (hn : s.nextStep = .readStatus) :
    step s = .next { s.consume with reply := .status s.stuckFault } := by
  rw [step_of_running h (by rw [hn]; rfl), hn]
  rfl

/-- Settles O44: the step records what `readButton` answers, and the ports show that record. -/
theorem buttonReadAnswers : Obligations.ButtonReadAnswers := by
  intro s i h hn
  have hreply : (readButtonStep i s.consume).reply = .button (readButton i s) := rfl
  refine ⟨readButtonStep i s.consume, step_readButton h hn, rfl, fun hnone => ?none, fun hb hi => ?some⟩
  case none =>
    rw [hnone.elim (readButton_of_busy i) (readButton_of_maxButton_lt s)] at hreply
    exact ⟨hreply, readPorts_of_reply_none hreply⟩
  case some =>
    rw [readButton_of_not_busy hb hi] at hreply
    exact ⟨hreply, readPorts_of_reply_some hreply⟩

/-- Settles O45: a running machine's status read is its own step, taken on the state that the schedule leaves. -/
theorem statusReadAnswers : Obligations.StatusReadAnswers := fun _ => step_readStatus

theorem decPhase_ne_idle_iff {d : DecPhase} : d ≠ .idle ↔ d = .apply ∨ d = .finish := by
  cases d <;> decide

/-- Settles O46: a decoder that is not idle is in `APPLY` or in `END`, where R40 (5) has the guard set. -/
theorem noValueWhileDecoding : Obligations.NoValueWhileDecoding := by
  intro s i hinv hd
  obtain ⟨-, -, -, -, hbusy, -⟩ := hinv
  exact readButton_of_busy i (hbusy.mpr (decPhase_ne_idle_iff.mp hd))

end Sys2Proof.Machine

namespace Sys2Proof.Machine

/-! ### The stuck-high fault: what sets it and what clears it (60_exceptions.md R228, R229) -/

/-- The stuck-high test of a sample raises the fault, in a sampler with a full high run, or leaves the flag as it was
(40_sampler.md R126). -/
theorem checkStuck_stuckFault_cases (s : State) :
    (checkStuck s).stuckFault = s.stuckFault ∨
      s.highRun = s.params.tStuckTicks ∧ (checkStuck s).stuckFault = true ∧ (checkStuck s).smpState = .halted := by
  unfold checkStuck
  split
  next hfull => exact .inr ⟨hfull, rfl, rfl⟩
  next => exact .inl rfl

/-- A tick leaves the flag as it was, or its sample fills the high run of a sampler that was not halted. -/
theorem tick_stuckFault_cases (level : Bool) (s : State) :
    (tick level s).stuckFault = s.stuckFault ∨
      s.smpState ≠ .halted ∧ (tick level s).stuckFault = true ∧ (tick level s).smpState = .halted ∧
        (tick level s).highRun = s.params.tStuckTicks := by
  by_cases hs : s.smpState = .halted
  · exact .inl (by rw [tick_of_halted level hs, commitIfPending_stuckFault])
  · have htick : tick level s = sampleTick level (commitIfPending s) := if_neg (by simpa using hs)
    rw [htick, sampleTick]
    refine (checkStuck_stuckFault_cases _).imp (fun hkeep => ?_) fun ⟨hfull, hflag, hhalted⟩ => ⟨hs, hflag, hhalted, ?_⟩
    · simpa using hkeep
    · simpa using hfull

/-- A tick that raises the fault has sampled a high level: a low one ends the run, and a full run is not empty. -/
theorem tick_raises_stuckFault {level : Bool} {s : State} (hw : s.params.wf = true) (hf : s.stuckFault = false)
    (ht : (tick level s).stuckFault = true) :
    level = true ∧ (tick level s).smpState = .halted ∧ (tick level s).highRun = s.params.tStuckTicks := by
  obtain ⟨-, -, hstuck⟩ := (wf_iff _).mp hw
  rcases tick_stuckFault_cases level s with hkeep | ⟨hn, -, hhalted, hfull⟩
  · rw [hkeep, hf] at ht
    cases ht
  · refine ⟨?_, hhalted, hfull⟩
    cases level with
    | true => rfl
    | false =>
      have hzero : (tick false s).highRun = 0 := tick_highRun_of_not_halted false hn
      omega

@[simp] theorem restartSampler_stuckFault (s : State) : (restartSampler s).stuckFault = false := by simp [restartSampler]

/-- Of the agents' own steps a tick may write the fault flag, a restart or a tick under `smp_restart` clears it, and every other
step keeps it (60_exceptions.md R228, R229). -/
theorem runStep_stuckFault_cases {a : AgentStep} {s t : State} (h : runStep a s = .next t) :
    t.stuckFault = s.stuckFault ∨
      (∃ level, a = .tick level ∧ s.restartPin = false ∧ t = tick level s) ∨
      t.stuckFault = false ∧ ((∃ rst, a = .driveResets rst true) ∨ s.restartPin = true ∧ ∃ level, a = .tick level) := by
  cases a with
  | tick level =>
    cases h
    cases hr : s.restartPin with
    | true => exact .inr (.inr ⟨restartSampler_stuckFault s, .inr ⟨rfl, level, rfl⟩⟩)
    | false => exact .inr (.inl ⟨level, rfl, rfl, rfl⟩)
  | decStart =>
    cases h
    rcases decStart_cases s with e | ⟨-, -, e⟩ <;> exact .inl (by simp [e])
  | decApply => obtain rfl | ⟨-, rfl | ⟨-, -, -, -, rfl⟩⟩ := decApply_next h <;> exact .inl rfl
  | decEnd =>
    cases h
    unfold decEnd
    split <;> exact .inl rfl
  | readButton | readStatus => cases h; exact .inl rfl
  | driveResets rst smpRestart =>
    cases h
    cases smpRestart with
    | true => exact .inr (.inr ⟨restartSampler_stuckFault (setPins rst true s), .inl ⟨rst, rfl⟩⟩)
    | false => exact .inl rfl
  | driveTarget addr => exact .inl (by rw [runStep_driveTarget_next h])

/-- Settles O39: a reset clears the flag, and of the agents' own steps only a tick that samples a high level sets it. -/
theorem onlyAHighTickFaults : Obligations.OnlyAHighTickFaults := by
  intro s t h hf hft
  obtain ⟨hw, ht⟩ := step_next h
  rcases takeStep_next ht with ⟨-, hreset⟩ | ⟨hrst, -, hrun⟩
  · obtain ⟨u, rfl, -⟩ := resetInstant_next hreset
    cases hft
  · rcases runStep_stuckFault_cases hrun with hkeep | ⟨level, ha, hpin, rfl⟩ | ⟨hclear, -⟩
    · exact absurd (hft.symm.trans hkeep) (by simp [hf])
    · obtain ⟨rfl, hhalted, hfull⟩ := tick_raises_stuckFault (s := s.consume) hw hf hft
      exact ⟨ha, (Bool.or_eq_false_iff.mp hrst).1, hpin, hhalted, hfull, by simp⟩
    · exact absurd (hft.symm.trans hclear) (by simp)

/-- Settles O41: without a full reset only a restart clears the flag, since a tick keeps it or sets it. -/
theorem onlyAResetClearsTheFault : Obligations.OnlyAResetClearsTheFault := by
  intro s t h hf hft
  obtain ⟨-, ht⟩ := step_next h
  rcases takeStep_next ht with ⟨hrst, -⟩ | ⟨hrst, -, hrun⟩
  · exact (Bool.or_eq_true_iff.mp hrst).imp_right .inl
  · have hne : t.stuckFault ≠ s.consume.stuckFault := by simp [hf, hft]
    rcases runStep_stuckFault_cases hrun with hkeep | ⟨level, -, -, rfl⟩ | ⟨-, ⟨rst, ha⟩ | ⟨hpin, ha⟩⟩
    · exact absurd hkeep hne
    · rcases tick_stuckFault_cases level s.consume with hkeep | ⟨-, hset, -⟩
      · exact absurd hkeep hne
      · exact absurd (hft.symm.trans hset) (by simp)
    · obtain ⟨-, hassert⟩ := Bool.or_eq_false_iff.mp hrst
      rw [ha] at hassert
      cases (show rst = false from hassert)
      exact .inr (.inr (.inl ha))
    · exact .inr (.inr (.inr ⟨hpin, ha⟩))

/-! ### Entering the fault (60_exceptions.md R228) -/

/-- One sample short of a full high run the sampler of a safe state waits for a fall: a classification is never that late, for
`T_STUCK_TICKS` is at least `T_SAMPLE_TICKS` + 2. -/
theorem State.Safe.waitFall_of_highRun {s : State} (h : s.Safe) (hn : s.smpState ≠ .halted)
    (hrun : s.highRun + 1 = s.params.tStuckTicks) : s.smpState = .waitFall := by
  obtain ⟨hw, -, -, -, -, hc⟩ := safe_iff.mp h
  obtain ⟨-, hsample, hstuck⟩ := (wf_iff _).mp hw
  unfold State.CountersSafe at hc
  cases hs : s.smpState with
  | waitFall => rfl
  | waitRise | timing =>
    simp only [hs] at hc
    omega
  | halted => exact absurd hs hn

/-- The high sample that fills the run in `WAIT_FALL` is no classification and moves nothing but the fault (40_sampler.md R121,
R126). -/
theorem sampleTick_fills_highRun {s : State} (hs : s.smpState = .waitFall) (hrun : s.highRun + 1 = s.params.tStuckTicks) :
    sampleTick true s = { s with highRun := s.params.tStuckTicks, stuckFault := true, smpState := .halted } := by
  have hcount : countHigh true s = { s with highRun := s.params.tStuckTicks } := by simp [countHigh, hrun]
  have hbit : sampledBit true s = none := by simp [sampledBit, hs]
  have hmove : sampleMove true { s with highRun := s.params.tStuckTicks } = { s with highRun := s.params.tStuckTicks } := by
    simp [sampleMove, hs]
  rw [sampleTick, hcount, hbit, hmove]
  exact if_pos rfl

theorem step_tick {s : State} {level : Bool} (h : s.Running) (hr : s.restartPin = false) (hn : s.nextStep = .tick level) :
    step s = .next (tick level s.consume) := by
  rw [step_of_running h (by rw [hn]; rfl), hn]
  simp [runStep, hr]

/-- Settles O40: the sampler waits for a fall, so after its due commit the tick only fills the run and raises the fault. -/
theorem faultEntryKeepsEverythingElse : Obligations.FaultEntryKeepsEverythingElse := by
  intro s hsafe hrst hrestart hnext hn hrun
  have hfall : s.smpState = .waitFall := hsafe.waitFall_of_highRun hn hrun
  rw [step_tick ⟨hsafe.1, hsafe.2.1, hrst⟩ hrestart hnext, tick, if_neg (by simpa using hn),
    sampleTick_fills_highRun (by simpa using hfall) (by simpa using hrun)]
  simp

/-! ### Where a step stops (60_exceptions.md R233) -/

/-- With legal parameters and a full reset in force, a step is an instant of that reset. -/
theorem step_of_reset {s : State} (hw : s.params.wf = true) (hr : (s.rstPin || assertsRst s.nextStep) = true) :
    step s = resetInstant s.nextStep s.consume := by
  rw [step_of_wf hw]
  exact if_pos hr

/-- Only an illegal target address stops an instant of the full reset (70_reset_and_hazards.md R265). -/
theorem resetInstant_cases (a : AgentStep) (s : State) :
    (∃ t, resetInstant a s = .next t) ∨
      ∃ addr, a = .driveTarget addr ∧ targetLegal addr = false ∧ resetInstant a s = .refused .targetAddrOutOfRange := by
  cases a with
  | driveTarget addr =>
    cases ha : targetLegal addr with
    | true => exact .inl ⟨_, if_pos ha⟩
    | false => exact .inr ⟨addr, rfl, ha, if_neg (by simp [ha])⟩
  | tick | decStart | decApply | decEnd | readButton | readStatus | driveResets => exact .inl ⟨_, rfl⟩

theorem decApply_completes (s : State) : ∃ t, decApply s = .next t := by
  by_cases hd : s.decPhase = .apply
  · exact ⟨_, decApply_of_apply hd⟩
  · exact ⟨s, decApply_of_not_enabled hd⟩

/-- Of the agents' own steps only a changed target address stops (70_reset_and_hazards.md R266). -/
theorem runStep_cases (a : AgentStep) (s : State) :
    (∃ t, runStep a s = .next t) ∨
      ∃ addr, a = .driveTarget addr ∧ addr ≠ s.params.targetAddr ∧ runStep a s = .refused .targetChangedOutsideReset := by
  cases a with
  | driveTarget addr =>
    by_cases ha : addr = s.params.targetAddr
    · exact .inl ⟨s, if_pos ha⟩
    · exact .inr ⟨addr, rfl, ha, if_neg ha⟩
  | decApply => exact .inl (decApply_completes s)
  | tick | decStart | decEnd | readButton | readStatus | driveResets => exact .inl ⟨_, rfl⟩

/-- Settles O52: a safe state has legal parameters and whole invariants, so a step is an instant of the reset or an agent's own,
and each of the two stops on a target address alone. -/
theorem safeStatesNeverStop : Obligations.SafeStatesNeverStop := by
  intro s hsafe
  obtain ⟨hw, hinv, -⟩ := hsafe
  cases hreset : s.rstPin || assertsRst s.nextStep with
  | true =>
    rw [step_of_reset hw hreset]
    refine (resetInstant_cases s.nextStep s.consume).imp_right fun ⟨addr, ha, hbad, hstop⟩ => ?_
    have hne : addr ≠ s.params.targetAddr := by
      rintro rfl
      rw [(targetLegal_iff _).mpr ((wf_iff _).mp hw).1] at hbad
      cases hbad
    have hrst : s.rstPin = true := by simpa [ha, assertsRst] using hreset
    exact ⟨addr, ha, hne, .inl ⟨hrst, hbad, hstop⟩⟩
  | false =>
    obtain ⟨hrst, hassert⟩ := Bool.or_eq_false_iff.mp hreset
    rw [step_of_running ⟨hw, hinv, hrst⟩ hassert]
    exact (runStep_cases s.nextStep s.consume).imp_right fun ⟨addr, ha, hne, hstop⟩ =>
      ⟨addr, ha, hne, .inr ⟨hrst, hstop⟩⟩

theorem brokenClause_range {s : State} {n : Nat} (h : s.brokenClause = some n) : 1 ≤ n ∧ n ≤ 8 := by
  unfold State.brokenClause at h
  split_ifs at h <;> cases h <;> decide

/-- Settles O53: with legal parameters and no reset in force a step first looks for a broken clause, and here it finds one. -/
theorem brokenInvariantsAreFaults : Obligations.BrokenInvariantsAreFaults := by
  intro s hw hrst hassert hbroken
  have hinv : ¬ s.consume.Inv := hbroken
  rw [← brokenClause_eq_none] at hinv
  obtain ⟨n, hn⟩ := Option.ne_none_iff_exists'.mp hinv
  obtain ⟨hmin, hmax⟩ := brokenClause_range hn
  refine ⟨n, hmin, hmax, ?_⟩
  rw [step_of_wf hw, takeStep, if_neg (by simp [hrst, hassert]), hn]

/-! ### What each agent owns (60_exceptions.md R235; 42_packet_buffer.md R163) -/

/-- With no full reset in force a step that answers was the agent's own. -/
theorem runStep_of_step_next {s t : State} (h : step s = .next t) (hrst : s.rstPin = false)
    (hassert : assertsRst s.nextStep = false) : runStep s.nextStep s.consume = .next t := by
  obtain ⟨-, ht⟩ := step_next h
  rcases takeStep_next ht with ⟨hreset, -⟩ | ⟨-, -, hrun⟩
  · simp [hrst, hassert] at hreset
  · exact hrun

/-- A sample cycle, tick or restart, keeps the decoder, the environment and the host's last answer. -/
theorem runStep_tick_frame {level : Bool} {s t : State} (h : runStep (.tick level) s = .next t) :
    SameDecoder s t ∧ SameEnvironment s t ∧ t.reply = s.reply := by
  cases h
  cases s.restartPin <;> simp

/-- From `s` to `t` nothing has been written but the decoder's own elements and, by a take, the latest slot. -/
structure OnlyDecoderWrites (s t : State) : Prop where
  producer : SameProducer s t
  environment : SameEnvironment s t
  reply : t.reply = s.reply
  slots : ∀ i, t.slot i ≠ s.slot i → s.slot i = .ready ∧ t.slot i = .empty ∧ i = s.latest

theorem onlyDecoderWrites_decoder (s : State) (phase : DecPhase) (w : Word) (busy : Bool) (table : Table) :
    OnlyDecoderWrites s { s with decPhase := phase, decWord := w, busy := busy, fbt := table } :=
  ⟨by simp, by simp, rfl, fun _ hi => absurd rfl hi⟩

/-- A take writes the latest slot alone, from `READY` to `EMPTY` (42_packet_buffer.md R162). -/
theorem onlyDecoderWrites_take {s : State} (w : Word) (hr : s.slot s.latest = .ready) :
    OnlyDecoderWrites s (beginDecode w (s.setSlot s.latest .empty)) := by
  have hslot : ∀ i, (beginDecode w (s.setSlot s.latest .empty)).slot i = if i = s.latest then .empty else s.slot i :=
    fun i => slot_setSlot s s.latest i .empty
  refine ⟨by simp, by simp, rfl, fun i hi => ?_⟩
  rw [hslot] at hi ⊢
  split_ifs at hi ⊢ with hlatest
  · exact ⟨hlatest ▸ hr, rfl, hlatest⟩
  · exact absurd rfl hi

theorem decStart_onlyDecoderWrites (s : State) : OnlyDecoderWrites s (decStart s) := by
  rcases decStart_cases s with e | ⟨-, hr, e⟩ <;> rw [e]
  · exact onlyDecoderWrites_decoder s _ _ _ _
  · exact onlyDecoderWrites_take _ hr

theorem decApply_onlyDecoderWrites {s t : State} (h : decApply s = .next t) : OnlyDecoderWrites s t := by
  obtain rfl | ⟨-, rfl | ⟨-, base, pay, -, rfl⟩⟩ := decApply_next h <;> exact onlyDecoderWrites_decoder _ _ _ _ _

theorem decEnd_onlyDecoderWrites (s : State) : OnlyDecoderWrites s (decEnd s) := by
  unfold decEnd
  split <;> exact onlyDecoderWrites_decoder s _ _ _ _

/-- Settles O57: with `rst` released none of these steps is a reset, so each is the frame of its own agent. -/
theorem agentsWriteOnlyWhatTheyOwn : Obligations.AgentsWriteOnlyWhatTheyOwn := by
  intro s t h hrst
  have hown : ∀ {a}, s.nextStep = a → assertsRst a = false → runStep a s.consume = .next t := by
    rintro _ rfl hassert
    exact runStep_of_step_next h hrst hassert
  refine ⟨fun ⟨level, ha⟩ => ?tick, fun hmem => ?decoder, ?read⟩
  case tick => exact runStep_tick_frame (hown ha rfl)
  case decoder =>
    have hdec : OnlyDecoderWrites s.consume t := by
      simp only [List.mem_cons, List.not_mem_nil, or_false] at hmem
      rcases hmem with ha | ha | ha
      · cases hown ha rfl
        exact decStart_onlyDecoderWrites _
      · exact decApply_onlyDecoderWrites (hown ha rfl)
      · cases hown ha rfl
        exact decEnd_onlyDecoderWrites _
    exact ⟨hdec.producer, hdec.environment, hdec.reply, hdec.slots⟩
  case read =>
    rintro (⟨i, ha⟩ | ha) <;> cases hown ha rfl <;> simp [readButtonStep, readStatusStep]

end Sys2Proof.Machine

namespace Sys2Proof.Machine

/-! ### The preamble search after a long packet (70_reset_and_hazards.md R269) -/

/-- A 1 short of the last one asked for counts the search down (41_synchronizer.md R140). -/
theorem seekPreambleNext_true {k : Nat} (hk : 1 < k) : seekPreambleNext k true = .seekPreamble (k - 1) :=
  (if_pos rfl).trans (if_neg (Nat.sub_ne_zero_of_lt hk))

/-- A 0 starts a preamble search over, whatever fewer bits than it asked for came before (41_synchronizer.md R140). -/
theorem feedBits_seekPreamble_few_zero (bits : List Bool) : ∀ {s : State} {k : Nat},
    s.syncState = .seekPreamble k → s.pubPending = false → k ≤ 10 → bits.length < k →
    feedBits (bits ++ [false]) s = setSync (.seekPreamble 10) s := by
  induction bits with
  | nil => exact fun hs hp _ _ => feedBit_seekPreamble hs hp false
  | cons b bits ih =>
    intro s k hs hp hk hl
    rw [List.length_cons] at hl
    rw [List.cons_append, feedBits_cons, feedBit_seekPreamble hs hp]
    cases b with
    | false => exact ih (s := setSync (.seekPreamble 10) s) rfl hp le_rfl (by omega)
    | true =>
      rw [seekPreambleNext_true (by omega)]
      exact ih (s := setSync (.seekPreamble (k - 1)) s) rfl hp (by omega) (by omega)

/-- A long packet leaves a preamble search with `C[2:0]` and the end bit still to come (41_synchronizer.md R146). -/
theorem exists_feedBits_pktLong_append {s : State} {pre : Nat} (b1 b2 i c : Byte) (rest : List Bool)
    (hs : s.syncState = .seekPreamble 10) (hp : s.pubPending = false) (hpre : 10 ≤ pre) :
    ∃ u : State, u.syncState = .seekPreamble 10 ∧ u.pubPending = false ∧
      feedBits (pktLong b1 b2 i c pre ++ rest) s =
        feedBits ([c.getLsbD 2, c.getLsbD 1, c.getLsbD 0, true] ++ rest) u := by
  refine ⟨deliverWord (packLong b1 b2 i (c.extractLsb' 3 5)) s, rfl, rfl, ?_⟩
  rw [feedBits_append, longPacketIsGathered s 10 b1 b2 i c pre (.inl ⟨hs, by omega, le_rfl⟩) hp hpre, ← feedBits_append]

theorem getLsbD_of_lowBits_ones {c : Byte} (hc : c.extractLsb' 0 3 = 0b111) {j : Nat} (hj : j < 3) : c.getLsbD j = true := by
  have hbit : (c.extractLsb' 0 3).getLsbD j = (0b111#3).getLsbD j := congrArg (·.getLsbD j) hc
  interval_cases j <;> simpa using hbit

/-- Settles O33: checksum bits `C[2:0]` of all ones and the end bit are four preamble ones more, while a `C[0]` of 0 starts the
search over and leaves the end bit alone. -/
theorem longPacketGivesPreambleCredit : Obligations.LongPacketGivesPreambleCredit := by
  intro s b1 b2 i c pre m hs hp hpre
  obtain ⟨u, hu, hup, hrun⟩ := exists_feedBits_pktLong_append b1 b2 i c (ones m ++ [false]) hs hp hpre
  rw [List.append_assoc, hrun]
  refine ⟨fun hc => ?credit, fun hc => ?restart⟩
  case credit =>
    have hones : [true, true, true, true] ++ (ones m ++ [false]) = ones (m + 4) ++ [false] := rfl
    rw [getLsbD_of_lowBits_ones hc (by omega), getLsbD_of_lowBits_ones hc (by omega), getLsbD_of_lowBits_ones hc (by omega),
      hones, feedBits_ones_zero_syncState hu (by omega) hup]
    have hboundary : m + 4 < 10 ↔ ¬ 6 ≤ m := by omega
    simp only [hboundary, ite_not]
  case restart =>
    have hsplit : [c.getLsbD 2, c.getLsbD 1, false, true] ++ (ones m ++ [false]) =
        ([c.getLsbD 2, c.getLsbD 1] ++ [false]) ++ (ones (m + 1) ++ [false]) := rfl
    rw [hc, hsplit, feedBits_append, feedBits_seekPreamble_few_zero _ hu hup le_rfl (by simp), setSync_of_eq hu,
      feedBits_ones_zero_syncState hu (by omega) hup]
    have hboundary : m + 1 < 10 ↔ ¬ 9 ≤ m := by omega
    simp only [hboundary, ite_not]

/-! ### The distance between two commits (70_reset_and_hazards.md R270) -/

/-- No frame is complete before this many bits more: those the preamble search still asks for, the start bit and the 32 bits of
the word (41_synchronizer.md R140 to R143). -/
def SyncState.bitsToFrame (x : SyncState) : Nat :=
  match x with
  | .seekPreamble k => min k 10 + 33
  | .seekStartBit => 33
  | .gathering n => n + 1

/-- One bit brings a preamble search nearer to a frame by one bit at most: a 0 sends it back to ten ones. -/
theorem bitsToFrame_seekPreambleNext (k : Nat) (b : Bool) :
    (SyncState.seekPreamble k).bitsToFrame ≤ (seekPreambleNext k b).bitsToFrame + 1 := by
  unfold seekPreambleNext
  split_ifs <;> simp only [SyncState.bitsToFrame, Config.preambleLen] <;> omega

/-- A bit that completes no frame writes the synchronizer only, and brings the next frame nearer by one bit at most. -/
theorem feedBit_before_frame {s : State} (b : Bool) (hp : s.pubPending = false) (hl : 1 < s.syncState.bitsToFrame) :
    ∃ x a, feedBit s b = setSync x (setAcc a s) ∧ s.syncState.bitsToFrame ≤ x.bitsToFrame + 1 := by
  cases hs : s.syncState with
  | seekPreamble k => exact ⟨_, s.acc, feedBit_seekPreamble hs hp b, bitsToFrame_seekPreambleNext k b⟩
  | seekStartBit =>
    cases b with
    | false => exact ⟨_, 0, feedBit_seekStartBit hs hp false, by decide⟩
    | true => exact ⟨s.syncState, s.acc, feedBit_seekStartBit hs hp true, by rw [hs]; decide⟩
  | gathering n =>
    cases n with
    | zero =>
      rw [hs] at hl
      exact absurd hl (by decide)
    | succ n => exact ⟨_, _, feedBit_gathering hs hp b, le_rfl⟩

/-- Bits too few to complete a frame write the synchronizer only. -/
theorem feedBits_before_frame (bits : List Bool) : ∀ {s : State},
    s.pubPending = false → bits.length < s.syncState.bitsToFrame →
    ∃ x a, feedBits bits s = setSync x (setAcc a s) := by
  induction bits with
  | nil => exact fun {s} _ _ => ⟨s.syncState, s.acc, rfl⟩
  | cons b bits ih =>
    intro s hp hl
    rw [List.length_cons] at hl
    obtain ⟨x, a, hbit, hnear⟩ := feedBit_before_frame b hp (by omega)
    obtain ⟨y, c, hrest⟩ := ih (s := setSync x (setAcc a s)) hp (by rw [setSync_syncState]; omega)
    exact ⟨y, c, by rw [feedBits_cons, hbit, hrest]; rfl⟩

/-- Settles O34: ten ones, a start bit and 32 bits are 43, so fewer bits write the synchronizer only. -/
theorem commitsAreFortyThreeBitsApart : Obligations.CommitsAreFortyThreeBitsApart := by
  intro s bits hs hp hl t
  have hfew : bits.length < s.syncState.bitsToFrame := by
    rw [hs]
    exact Nat.lt_succ_of_le hl
  obtain ⟨x, a, hkeep⟩ : ∃ x a, t = setSync x (setAcc a s) := feedBits_before_frame bits hp hfew
  rw [hkeep]
  exact ⟨rfl, rfl, rfl, rfl, rfl, hp⟩

end Sys2Proof.Machine

namespace Sys2Proof.Machine

/-! ### The full reset as a step (70_reset_and_hazards.md R260, R262) -/

theorem fullReset_atReset (s : State) : (fullReset s).AtReset := rfl

/-- After a full reset every button reads as off (10_state.md R39). -/
theorem readButton_fullReset (s : State) {i : BitVec 4} (hi : i.toNat ≤ 12) : readButton i (fullReset s) = some false := by
  rw [readButton_of_not_busy (fullReset_busy s) hi, fullReset_fbt]
  exact congrArg some BitVec.getLsbD_zero

/-- A step that is a full reset leaves the reset state, with the ports and the parameters of the state `u` it reset. -/
theorem step_of_resetInstant {s u : State} (hw : s.params.wf = true) (hr : (s.rstPin || assertsRst s.nextStep) = true)
    (h : resetInstant s.nextStep s.consume = .next (fullReset u)) :
    ∃ t, step s = .next t ∧ t.AtReset ∧ t.rstPin = u.rstPin ∧ t.restartPin = u.restartPin ∧ t.reply = .none ∧
      t.params = u.params :=
  ⟨fullReset u, (step_of_reset hw hr).trans h, fullReset_atReset u, rfl, rfl, rfl, rfl⟩

/-- Settles O47: a step that asserts `rst` is the reset before it looks at any invariant. -/
theorem fullResetFromAnyState : Obligations.FullResetFromAnyState := by
  intro s smpRestart hw hn
  have hstep : step s = .next (fullReset (setPins true smpRestart s.consume)) := by
    rw [step_of_reset hw (by simp [hn, assertsRst]), hn]
    rfl
  exact ⟨_, hstep, fullReset_atReset _, rfl, rfl, rfl, fun i hi => readButton_fullReset _ hi⟩

/-- Settles O48: under `rst` each step is an instant of the reset, of the state as it is or with the driven port in it. -/
theorem heldResetTakesNoOtherStep : Obligations.HeldResetTakesNoOtherStep := by
  refine ⟨fun s a hw hr hn ha => ?agent, fun s rst smpRestart hw hr hn => ?pins, fun s addr hw hr hn hlegal => ?target⟩
  case agent =>
    have hreset : resetInstant a s.consume = .next (fullReset s.consume) := by
      simp only [List.mem_cons, List.not_mem_nil, or_false] at ha
      rcases ha with (rfl | rfl | rfl | rfl | rfl | rfl) | ⟨i, rfl⟩ <;> rfl
    have ht := step_of_resetInstant hw (by simp [hr]) (hn ▸ hreset)
    rwa [State.consume_rstPin, hr] at ht
  case pins => exact step_of_resetInstant (u := setPins rst smpRestart s.consume) hw (by simp [hr]) (by rw [hn]; rfl)
  case target =>
    have hreset : resetInstant (.driveTarget addr) s.consume = .next (fullReset (setTarget addr s.consume)) := if_pos hlegal
    have ht := step_of_resetInstant hw (by simp [hr]) (hn ▸ hreset)
    rwa [setTarget_rstPin, State.consume_rstPin, hr] at ht

/-! ### The target address (70_reset_and_hazards.md R265, R266) -/

/-- Of the instants of the full reset only a driven target address writes the parameters (70_reset_and_hazards.md R265). -/
theorem resetInstant_params_cases {a : AgentStep} {s t : State} (h : resetInstant a s = .next t) :
    t.params = s.params ∨ ∃ addr, a = .driveTarget addr ∧ targetLegal addr = true ∧ t = fullReset (setTarget addr s) := by
  cases a with
  | driveTarget addr =>
    simp only [resetInstant] at h
    split_ifs at h with ha
    cases h
    exact .inr ⟨addr, rfl, ha, rfl⟩
  | tick | decStart | decApply | decEnd | readButton | readStatus | driveResets =>
    cases h
    exact .inl rfl

/-- No agent's own step writes the parameters (70_reset_and_hazards.md R266). -/
theorem runStep_params {a : AgentStep} {s t : State} (h : runStep a s = .next t) : t.params = s.params := by
  cases a with
  | tick level =>
    obtain ⟨-, ⟨hparams, -⟩, -⟩ := runStep_tick_frame h
    exact hparams
  | decStart => cases h; exact (decStart_onlyDecoderWrites s).environment.1
  | decApply => exact (decApply_onlyDecoderWrites h).environment.1
  | decEnd => cases h; exact (decEnd_onlyDecoderWrites s).environment.1
  | readButton | readStatus => cases h; rfl
  | driveResets rst smpRestart =>
    cases h
    split
    · exact restartSampler_params (setPins rst smpRestart s)
    · rfl
  | driveTarget addr => rw [runStep_driveTarget_next h]

/-- Settles O55: an agent's own step keeps the parameters, and so does a reset with no target address driven. -/
theorem targetChangesOnlyUnderReset : Obligations.TargetChangesOnlyUnderReset := by
  intro s t h hne
  have hne' : t.params ≠ s.consume.params := hne
  obtain ⟨-, ht⟩ := step_next h
  rcases takeStep_next ht with ⟨hrst, hreset⟩ | ⟨-, -, hrun⟩
  · rcases resetInstant_params_cases hreset with hkeep | ⟨addr, ha, hlegal, rfl⟩
    · exact absurd hkeep hne'
    · have hpin : s.rstPin = true := by simpa [ha, assertsRst] using hrst
      exact ⟨hpin, addr, ha, hlegal, rfl, fullReset_atReset _⟩
  · exact absurd (runStep_params hrun) hne'

/-! ### The sampler restart (70_reset_and_hazards.md R261) -/

@[simp] theorem restartSampler_smpState (s : State) : (restartSampler s).smpState = .waitFall := by simp [restartSampler]
@[simp] theorem restartSampler_smpCount (s : State) : (restartSampler s).smpCount = 0 := by simp [restartSampler]
@[simp] theorem restartSampler_highRun (s : State) : (restartSampler s).highRun = 0 := by simp [restartSampler]
@[simp] theorem restartSampler_syncState (s : State) : (restartSampler s).syncState = .seekPreamble 10 := by
  simp [restartSampler, Config.preambleLen]
@[simp] theorem restartSampler_acc (s : State) : (restartSampler s).acc = 0 := by simp [restartSampler]
@[simp] theorem restartSampler_pubPending (s : State) : (restartSampler s).pubPending = false := by simp [restartSampler]

/-- A slot is `PRODUCING` exactly when it is the one of a pending publication (10_state.md R40 (1) and (3)). -/
theorem State.BufferSafe.slot_producing_iff {s : State} (h : s.BufferSafe) (i : CellIndex) :
    s.slot i = .producing ↔ s.pubPending = true ∧ i = s.pubSlot := by
  obtain ⟨hlatest, -, hpending, hslot⟩ := h
  constructor
  · intro hi
    obtain rfl : i = otherCell s.latest := eq_otherCell_of_ne (by rintro rfl; exact hlatest hi)
    have hp := hpending.mpr hi
    exact ⟨hp, (hslot hp).symm⟩
  · rintro ⟨hp, rfl⟩
    rw [hslot hp]
    exact hpending.mp hp

/-- A restart empties the slot that was being written, and keeps every other (decision D29 of the spec). -/
theorem restartSampler_slot {s : State} (h : s.BufferSafe) (i : CellIndex) :
    (restartSampler s).slot i = if s.slot i = .producing then .empty else s.slot i := by
  simp only [h.slot_producing_iff]
  exact abandonPublish_slot _ i

/-- `smp_restart` as it is asserted, and a sample cycle while it is held, are one and the same restart (log 7). -/
theorem step_restart {s : State} (h : s.Running)
    (hn : s.nextStep = .driveResets false true ∨ s.restartPin = true ∧ ∃ level, s.nextStep = .tick level) :
    step s = .next (restartSampler (setPins false true s.consume)) := by
  have ⟨_, _, hrst⟩ := h
  rcases hn with hn | ⟨hpin, level, hn⟩ <;> rw [step_of_running h (by rw [hn]; rfl), hn]
  · rfl
  · have hkeep : setPins false true s.consume = s.consume := by
      rw [← hpin, ← hrst]
      rfl
    rw [hkeep, runStep, if_pos (by exact hpin)]

/-- Settles O49: the step is the restart, which resets the producer's fields and of the rest writes the pending slot only. -/
theorem restartResetsTheProducerOnly : Obligations.RestartResetsTheProducerOnly := by
  intro s h hn
  have ⟨_, hinv, _⟩ := h
  obtain ⟨hbuffer, -⟩ := inv_iff.mp hinv
  have hslots : ∀ i, (restartSampler (setPins false true s.consume)).slot i =
      if s.slot i = .producing then .empty else s.slot i :=
    restartSampler_slot (s := setPins false true s.consume) hbuffer
  exact ⟨_, step_restart h hn, by simp [hslots]⟩

end Sys2Proof.Machine
